-- ==== Sys2Proof/Word.lean ====
section
/-! DEFINITION. The word types of ASK-CORE: the 32-bit command word and register, the byte, a bit sequence. -/

namespace Sys2Proof

/-- A command word and a register value: 32 bits (30_encoding.md R60; 10_state.md R20). -/
abbrev Word := BitVec 32

/-- A byte, 0 to 255 (00_scope.md section 5.1). -/
abbrev Byte := BitVec 8

/-- A bit sequence, element 0 first in time (00_scope.md section 5.1); `true` is the bit 1 or the level 1. -/
abbrev Bits := List Bool

end Sys2Proof
end

