-- ==== Sys2Proof/Syntax.lean ====
section
/-! DEFINITION. The 34 commands of ASK-CMD, one constructor per row of spec/opcode_table.json. -/

namespace Sys2Proof

/-- A command with its operand (30_encoding.md R62, R63): `b` one bit or level, `v` one byte, `m` the set of four
queue flags, `n` a count. -/
inductive Instr where
  | nop
  | srst
  | clrAll
  | qFlush (m : BitVec 4)
  | frqDrop
  | crcClr
  | crcBit (b : Bool)
  | crcByte (v : Byte)
  | crcEmit
  | pbClr
  | pbBit (b : Bool)
  | pbByte (v : Byte)
  | stfClr
  | stfBit (b : Bool)
  | dsfClr
  | dsfBit (b : Bool)
  | nzeClr
  | nzeBit (b : Bool)
  | nzdClr
  | nzdLvl (v : Byte)
  | pckClr
  | pckBit (b : Bool)
  | xtrClr
  | xtrByte (v : Byte)
  | modClr
  | modSym (b : Bool)
  | modFlush
  | modTone (n : Nat)
  | modSil (n : Nat)
  | txFrame
  | txLevels
  | txBurst
  | rxLvl (v : Byte)
  | rxEnd
  deriving DecidableEq, Repr

end Sys2Proof
end

