-- ==== Sys2Proof/WellFormed.lean ====
section
/-! DEFINITION. Which commands are well-formed: the operand fits the field of its format (30_encoding.md R61, R66). -/

namespace Sys2Proof

/-- An operand "must fit the format's field" (30_encoding.md R66). Bits, bytes and masks fit by their type; the count
of format N must fit 24 bits (R62: 0 to 16777215). -/
def Instr.wellFormed : Instr → Bool
  | .modTone n => decide (n < 2 ^ 24)
  | .modSil n => decide (n < 2 ^ 24)
  | .nop | .srst | .clrAll | .qFlush _ | .frqDrop | .crcClr | .crcBit _ | .crcByte _ | .crcEmit | .pbClr | .pbBit _
  | .pbByte _ | .stfClr | .stfBit _ | .dsfClr | .dsfBit _ | .nzeClr | .nzeBit _ | .nzdClr | .nzdLvl _ | .pckClr
  | .pckBit _ | .xtrClr | .xtrByte _ | .modClr | .modSym _ | .modFlush | .txFrame | .txLevels | .txBurst | .rxLvl _
  | .rxEnd => true

/-- `i` is a command that 30_encoding.md R62 can hand to the block. -/
abbrev Instr.WellFormed (i : Instr) : Prop := i.wellFormed = true

end Sys2Proof
end

