-- ==== Sys2Proof/Decode.lean ====
section
/-! DEFINITION. The decoder of command words, total on all 2^32 words, and the encoder, both written from
30_encoding.md R60 to R64; the rows of R63 as a table; the decoder on numbers the host numbers bits by. -/

namespace Sys2Proof

/-- Why a word is illegal (30_encoding.md R64): its OPC is none of the 34 listed values, or a "zero" bit of its format
(R61) is 1. Both raise E_ILLCMD. -/
inductive Reject where
  | unassignedOpcode
  | reservedBits
  deriving DecidableEq, Repr

/-- OPC = w[31:24] (R60). -/
def opcOf (w : Word) : BitVec 8 := w.extractLsb' 24 8

/-- ARG = w[23:0] (R60). -/
def argOf (w : Word) : BitVec 24 := w.extractLsb' 0 24

/-- Format Z (R61): bits 23:0 zero, no operand. -/
def formatZ (w : Word) (i : Instr) : Except Reject Instr :=
  if w.extractLsb' 0 24 = 0 then .ok i else .error .reservedBits

/-- Format B (R61, R62): bits 23:1 zero, b = w[0]. -/
def formatB (w : Word) (i : Bool → Instr) : Except Reject Instr :=
  if w.extractLsb' 1 23 = 0 then .ok (i (w.getLsbD 0)) else .error .reservedBits

/-- Format Y (R61, R62): bits 23:8 zero, v = w[7:0]. -/
def formatY (w : Word) (i : Byte → Instr) : Except Reject Instr :=
  if w.extractLsb' 8 16 = 0 then .ok (i (w.extractLsb' 0 8)) else .error .reservedBits

/-- Format M (R61, R62): bits 23:4 zero, m = w[3:0]. -/
def formatM (w : Word) (i : BitVec 4 → Instr) : Except Reject Instr :=
  if w.extractLsb' 4 20 = 0 then .ok (i (w.extractLsb' 0 4)) else .error .reservedBits

/-- Format N (R61, R62): n = w[23:0], an unsigned count; no reserved bit. -/
def formatN (w : Word) (i : Nat → Instr) : Except Reject Instr := .ok (i (argOf w).toNat)

/-- The decoding procedure of R63: OPC selects the row, the format's zero bits are tested, the operand is taken. -/
def decode (w : Word) : Except Reject Instr :=
  match (opcOf w).toNat with
  | 0x00 => formatZ w .nop
  | 0x01 => formatZ w .srst
  | 0x02 => formatZ w .clrAll
  | 0x03 => formatM w .qFlush
  | 0x04 => formatZ w .frqDrop
  | 0x10 => formatZ w .crcClr
  | 0x11 => formatB w .crcBit
  | 0x12 => formatY w .crcByte
  | 0x13 => formatZ w .crcEmit
  | 0x18 => formatZ w .pbClr
  | 0x19 => formatB w .pbBit
  | 0x1A => formatY w .pbByte
  | 0x20 => formatZ w .stfClr
  | 0x21 => formatB w .stfBit
  | 0x24 => formatZ w .dsfClr
  | 0x25 => formatB w .dsfBit
  | 0x30 => formatZ w .nzeClr
  | 0x31 => formatB w .nzeBit
  | 0x34 => formatZ w .nzdClr
  | 0x35 => formatY w .nzdLvl
  | 0x40 => formatZ w .pckClr
  | 0x41 => formatB w .pckBit
  | 0x44 => formatZ w .xtrClr
  | 0x45 => formatY w .xtrByte
  | 0x50 => formatZ w .modClr
  | 0x51 => formatB w .modSym
  | 0x52 => formatZ w .modFlush
  | 0x53 => formatN w .modTone
  | 0x54 => formatN w .modSil
  | 0x60 => formatZ w .txFrame
  | 0x61 => formatZ w .txLevels
  | 0x62 => formatZ w .txBurst
  | 0x68 => formatY w .rxLvl
  | 0x69 => formatZ w .rxEnd
  | _ => .error .unassignedOpcode

/-- A command word from its two fields (R60; R66: `w = (OPC << 24) or operand`). -/
def mkWord (opc : BitVec 8) (arg : BitVec 24) : Word := opc ++ arg

/-- The argument field of formats B, Y, M and N (R61): the operand in the low bits, zeros above it. -/
def argB (b : Bool) : BitVec 24 := (BitVec.ofBool b).setWidth 24
def argY (v : Byte) : BitVec 24 := v.setWidth 24
def argM (m : BitVec 4) : BitVec 24 := m.setWidth 24
def argN (n : Nat) : BitVec 24 := BitVec.ofNat 24 n

/-- The word of a command (R63, R66). On a well-formed command it is the one word that decodes to it. -/
def encode : Instr → Word
  | .nop => mkWord 0x00 0
  | .srst => mkWord 0x01 0
  | .clrAll => mkWord 0x02 0
  | .qFlush m => mkWord 0x03 (argM m)
  | .frqDrop => mkWord 0x04 0
  | .crcClr => mkWord 0x10 0
  | .crcBit b => mkWord 0x11 (argB b)
  | .crcByte v => mkWord 0x12 (argY v)
  | .crcEmit => mkWord 0x13 0
  | .pbClr => mkWord 0x18 0
  | .pbBit b => mkWord 0x19 (argB b)
  | .pbByte v => mkWord 0x1A (argY v)
  | .stfClr => mkWord 0x20 0
  | .stfBit b => mkWord 0x21 (argB b)
  | .dsfClr => mkWord 0x24 0
  | .dsfBit b => mkWord 0x25 (argB b)
  | .nzeClr => mkWord 0x30 0
  | .nzeBit b => mkWord 0x31 (argB b)
  | .nzdClr => mkWord 0x34 0
  | .nzdLvl v => mkWord 0x35 (argY v)
  | .pckClr => mkWord 0x40 0
  | .pckBit b => mkWord 0x41 (argB b)
  | .xtrClr => mkWord 0x44 0
  | .xtrByte v => mkWord 0x45 (argY v)
  | .modClr => mkWord 0x50 0
  | .modSym b => mkWord 0x51 (argB b)
  | .modFlush => mkWord 0x52 0
  | .modTone n => mkWord 0x53 (argN n)
  | .modSil n => mkWord 0x54 (argN n)
  | .txFrame => mkWord 0x60 0
  | .txLevels => mkWord 0x61 0
  | .txBurst => mkWord 0x62 0
  | .rxLvl v => mkWord 0x68 (argY v)
  | .rxEnd => mkWord 0x69 0

/-- One row of the table of R63: `w and mask = pattern` selects the command. -/
structure OpRow where
  mnemonic : String
  mask : Word
  pattern : Word
  deriving DecidableEq, Repr

/-- The table of R63, in its order. The decoder does not use it: it is the spec's second description of the same
encoding, and the two are held against each other. -/
def opcodeTable : List OpRow :=
  [⟨"NOP", 0xFFFFFFFF, 0x00000000⟩, ⟨"SRST", 0xFFFFFFFF, 0x01000000⟩, ⟨"CLR.ALL", 0xFFFFFFFF, 0x02000000⟩,
   ⟨"Q.FLUSH", 0xFFFFFFF0, 0x03000000⟩, ⟨"FRQ.DROP", 0xFFFFFFFF, 0x04000000⟩, ⟨"CRC.CLR", 0xFFFFFFFF, 0x10000000⟩,
   ⟨"CRC.BIT", 0xFFFFFFFE, 0x11000000⟩, ⟨"CRC.BYTE", 0xFFFFFF00, 0x12000000⟩, ⟨"CRC.EMIT", 0xFFFFFFFF, 0x13000000⟩,
   ⟨"PB.CLR", 0xFFFFFFFF, 0x18000000⟩, ⟨"PB.BIT", 0xFFFFFFFE, 0x19000000⟩, ⟨"PB.BYTE", 0xFFFFFF00, 0x1A000000⟩,
   ⟨"STF.CLR", 0xFFFFFFFF, 0x20000000⟩, ⟨"STF.BIT", 0xFFFFFFFE, 0x21000000⟩, ⟨"DSF.CLR", 0xFFFFFFFF, 0x24000000⟩,
   ⟨"DSF.BIT", 0xFFFFFFFE, 0x25000000⟩, ⟨"NZE.CLR", 0xFFFFFFFF, 0x30000000⟩, ⟨"NZE.BIT", 0xFFFFFFFE, 0x31000000⟩] ++
  [⟨"NZD.CLR", 0xFFFFFFFF, 0x34000000⟩, ⟨"NZD.LVL", 0xFFFFFF00, 0x35000000⟩, ⟨"PCK.CLR", 0xFFFFFFFF, 0x40000000⟩,
   ⟨"PCK.BIT", 0xFFFFFFFE, 0x41000000⟩, ⟨"XTR.CLR", 0xFFFFFFFF, 0x44000000⟩, ⟨"XTR.BYTE", 0xFFFFFF00, 0x45000000⟩,
   ⟨"MOD.CLR", 0xFFFFFFFF, 0x50000000⟩, ⟨"MOD.SYM", 0xFFFFFFFE, 0x51000000⟩, ⟨"MOD.FLUSH", 0xFFFFFFFF, 0x52000000⟩,
   ⟨"MOD.TONE", 0xFF000000, 0x53000000⟩, ⟨"MOD.SIL", 0xFF000000, 0x54000000⟩, ⟨"TX.FRAME", 0xFFFFFFFF, 0x60000000⟩,
   ⟨"TX.LEVELS", 0xFFFFFFFF, 0x61000000⟩, ⟨"TX.BURST", 0xFFFFFFFF, 0x62000000⟩, ⟨"RX.LVL", 0xFFFFFF00, 0x68000000⟩,
   ⟨"RX.END", 0xFFFFFFFF, 0x69000000⟩]

/-- `w` is selected by the row (R63, R171). -/
def OpRow.selects (r : OpRow) (w : Word) : Bool := w &&& r.mask == r.pattern

/-- The mnemonic of a command (R63). -/
def Instr.mnemonic : Instr → String
  | .nop => "NOP"
  | .srst => "SRST"
  | .clrAll => "CLR.ALL"
  | .qFlush _ => "Q.FLUSH"
  | .frqDrop => "FRQ.DROP"
  | .crcClr => "CRC.CLR"
  | .crcBit _ => "CRC.BIT"
  | .crcByte _ => "CRC.BYTE"
  | .crcEmit => "CRC.EMIT"
  | .pbClr => "PB.CLR"
  | .pbBit _ => "PB.BIT"
  | .pbByte _ => "PB.BYTE"
  | .stfClr => "STF.CLR"
  | .stfBit _ => "STF.BIT"
  | .dsfClr => "DSF.CLR"
  | .dsfBit _ => "DSF.BIT"
  | .nzeClr => "NZE.CLR"
  | .nzeBit _ => "NZE.BIT"
  | .nzdClr => "NZD.CLR"
  | .nzdLvl _ => "NZD.LVL"
  | .pckClr => "PCK.CLR"
  | .pckBit _ => "PCK.BIT"
  | .xtrClr => "XTR.CLR"
  | .xtrByte _ => "XTR.BYTE"
  | .modClr => "MOD.CLR"
  | .modSym _ => "MOD.SYM"
  | .modFlush => "MOD.FLUSH"
  | .modTone _ => "MOD.TONE"
  | .modSil _ => "MOD.SIL"
  | .txFrame => "TX.FRAME"
  | .txLevels => "TX.LEVELS"
  | .txBurst => "TX.BURST"
  | .rxLvl _ => "RX.LVL"
  | .rxEnd => "RX.END"

/-- The command word a register write carries, from an instruction whose bits are numbered as spec/opcode_table.json
numbers them: `nbits` bits given, every bit above them 0. -/
def tableWord (nbits w : Nat) : Nat := w % 2 ^ nbits

/-- The instruction the decoder reads from the bits `w` of a table row of `nbits` bits; a value that does not fit one
command word (R60: every command is one 32-bit word) is none. -/
def decodeTableWord (nbits w : Nat) : Option Instr :=
  if tableWord nbits w < 2 ^ 32 then (decode (BitVec.ofNat 32 (tableWord nbits w))).toOption else none

end Sys2Proof
end

