-- ==== Sys2Proof/Machine/Flags.lean ====
section
/-! DEFINITION. The flags of ERR (10_state.md R30): the six errors (60_exceptions.md R190), the two events (R198), and
how the register changes when an error is recorded, an event is set, or the host writes 1s to it. -/

namespace Sys2Proof.Machine

/-- The six errors (60_exceptions.md R190). -/
inductive ErrKind where
  | illcmd
  | cfg
  | pbfull
  | qfull
  | qempty
  | regacc
  deriving DecidableEq, Repr

/-- The code of an error (R190). -/
def errCode : ErrKind → BitVec 32
  | .illcmd => 1
  | .cfg => 2
  | .pbfull => 3
  | .qfull => 4
  | .qempty => 5
  | .regacc => 6

/-- The sticky flag of an error in ERR (R190; 10_state.md R30: bits 0 to 5). -/
def errBit : ErrKind → Nat
  | .illcmd => 0
  | .cfg => 1
  | .pbfull => 2
  | .qfull => 3
  | .qempty => 4
  | .regacc => 5

/-- The two events (R198): the burst was cut, an overlong frame was dropped. -/
inductive EventKind where
  | trunc
  | fovf
  deriving DecidableEq, Repr

/-- The sticky flag of an event in ERR (R198; 10_state.md R30). -/
def eventBit : EventKind → Nat
  | .trunc => 8
  | .fovf => 9

/-- The flag bits a host write can clear: {0,1,2,3,4,5,8,9} (10_state.md R30). -/
def errFlagMask : BitVec 32 := 0x0000033F

/-- The field LASTCODE, bits 23:16 (10_state.md R30). -/
def lastCodeMask : BitVec 32 := 0x00FF0000

/-- ERR after an error (R191): its flag set, LASTCODE its code, every other flag kept ("flags accumulate", R202). -/
def errAfter (k : ErrKind) (err : BitVec 32) : BitVec 32 :=
  ((err ||| BitVec.twoPow 32 (errBit k)) &&& ~~~lastCodeMask) ||| (errCode k <<< 16)

/-- ERR after an event (R198): its flag set, LASTCODE kept. -/
def eventAfter (k : EventKind) (err : BitVec 32) : BitVec 32 := err ||| BitVec.twoPow 32 (eventBit k)

/-- ERR after the host writes `v` to it (10_state.md R30): every flag whose written bit is 1 is cleared, nothing else. -/
def w1cAfter (v err : BitVec 32) : BitVec 32 := err &&& ~~~(v &&& errFlagMask)

end Sys2Proof.Machine
end

