-- ==== Sys2Proof/Config.lean ====
section
/-! DEFINITION. What one instance of the hardware fixes: the widths and sizes of 00_scope.md section 4, the parameters
it leaves OPEN with their constraints, the named properties of the table LUT, and the one free value of the spec. -/

namespace Sys2Proof

/-- One complex sample (10_state.md R37): each component a 16-bit two's-complement pattern (SW = 16). -/
structure Sample where
  i : BitVec 16
  q : BitVec 16
  deriving DecidableEq, Repr

/-- The silent sample (0, 0), which does not come from the table (43_gmsk_modulator.md R126). -/
def Sample.silent : Sample := ⟨0, 0⟩

namespace Config

/-- SPS_MAX (00_scope.md section 4). -/
abbrev spsMax : Nat := 256

/-- COEF_DEPTH (00_scope.md section 4; 10_state.md R34). -/
abbrev coefDepth : Nat := 2049

/-- Length of the delay line, 8·SPS_MAX (10_state.md R17). -/
abbrev dlLen : Nat := 2048

/-- Entries of the table LUT, 2^LW (10_state.md R35). -/
abbrev lutLen : Nat := 4096

/-- What entry `k` of COEF holds after the hardware reset numbered `resets`, before anything is written to it:
unspecified (10_state.md R39; 93_implementation_defined.md U1, treatment `any value`). FREE VALUE, log entry 4. -/
opaque coefPowerUp (resets k : Nat) : BitVec 25

end Config

/-- The constants of one instance that the spec leaves OPEN (00_scope.md section 4; 93_implementation_defined.md U10).
A depth of `none` is unbounded (written ∞). No command and no access changes them. DESIGN CHOICE, log entry 3: they
stand beside the state so that every statement over all states speaks of every instance. -/
structure Params where
  /-- PBUF_MAX, capacity of the payload buffer in bits. -/
  pbufMax : Nat
  /-- AMP, the amplitude the table is built for. -/
  amp : Nat
  /-- LUT, the table of (I, Q) pairs. -/
  lut : List Sample
  /-- FRAME_MAX, capacity of the frame accumulator in bytes. -/
  frameMax : Nat
  obqDepth : Option Nat
  oyqDepth : Option Nat
  ofqDepth : Option Nat
  osqDepth : Option Nat
  deriving DecidableEq, Repr

/-- LUT-RANGE of one entry (43_gmsk_modulator.md R127): neither component exceeds AMP. -/
def Sample.inRange (amp : Nat) (s : Sample) : Bool :=
  decide (s.i.toInt.natAbs ≤ amp) && decide (s.q.toInt.natAbs ≤ amp)

/-- LUT-MAG of one entry (43_gmsk_modulator.md R127): |I² + Q² − AMP²| ≤ 2·AMP. -/
def Sample.inMag (amp : Nat) (s : Sample) : Bool :=
  decide ((s.i.toInt * s.i.toInt + s.q.toInt * s.q.toInt - (amp : Int) * amp).natAbs ≤ 2 * amp)

/-- LUT-AXES (43_gmsk_modulator.md R127): the four entries on the axes. -/
def Params.lutAxes (p : Params) : Bool :=
  decide (p.lut[0]? = some ⟨BitVec.ofInt 16 p.amp, 0⟩) &&
  decide (p.lut[1024]? = some ⟨0, BitVec.ofInt 16 p.amp⟩) &&
  decide (p.lut[2048]? = some ⟨BitVec.ofInt 16 (-p.amp), 0⟩) &&
  decide (p.lut[3072]? = some ⟨0, BitVec.ofInt 16 (-p.amp)⟩)

/-- The constraints on the OPEN parameters (00_scope.md section 4) and the named properties of LUT
(43_gmsk_modulator.md R127). PBUF_MAX < 2^32 is DEDUCED from PB_LEN reading len(PBUF) in 32 bits (10_state.md R32),
log entry 7. -/
def Params.wf (p : Params) : Bool :=
  decide (168 ≤ p.pbufMax) && decide (p.pbufMax < 2 ^ 32) &&
  decide (1 ≤ p.amp) && decide (p.amp ≤ 32767) &&
  decide (23 ≤ p.frameMax) && decide (p.frameMax ≤ 65535) &&
  decide (p.lut.length = Config.lutLen) &&
  p.lut.all (fun s => s.inRange p.amp && s.inMag p.amp) && p.lutAxes

end Sys2Proof
end

