-- ==== Sys2Proof/Machine/State.lean ====
section
/-! DEFINITION. The state of one ASK-CORE instance (10_state.md R10), its reset values (R39), and the reasons a step
can stop. -/

namespace Sys2Proof.Machine

/-- The extractor's state XST (10_state.md R16): 0 is SEARCHING ("no frame open"), 1 is IN_FRAME ("accumulating"). -/
inductive ExtractorState where
  | searching
  | inFrame
  deriving DecidableEq, Repr

/-- An entry of the delay line DL (10_state.md R17): −1, 0 ("nothing") or +1. -/
inductive Tap where
  | neg
  | zero
  | pos
  deriving DecidableEq, Repr

/-- A frame record of OFQ (10_state.md R37): the bytes between two flags, checksum bytes included, and the Boolean of
`verify`. -/
structure FrameRecord where
  bytes : List Byte
  ok : Bool
  deriving DecidableEq, Repr

/-- One access of the host (45_system_and_queues.md R170), or the reset input, which "a model treats as one more
host-visible event in the access sequence" (70_reset_and_hazards.md R210). The register number is any number
(93_implementation_defined.md U8, log entry 8). -/
inductive Access where
  | write (n : Nat) (v : Word)
  | read (n : Nat)
  | hardwareReset
  deriving DecidableEq, Repr

/-- The coefficient RAM COEF (10_state.md R34) as the entries written since hardware reset, indexes strictly rising; an
index not listed holds its unspecified power-up value (R39). Log entries 4 and 13. -/
abbrev CoefRam := List (Nat × BitVec 25)

/-- The whole state (10_state.md R10), and after it four fields of the model's own: the constants of the instance, the
host's accesses still to be performed, the value the latest read returned, and the count of hardware resets. -/
structure State where
  /-- CRC, R11. -/
  crc : BitVec 16
  /-- SCNT, R12. -/
  scnt : BitVec 3
  /-- DCNT, R13. -/
  dcnt : BitVec 3
  /-- ELVL, R14. -/
  elvl : Bool
  /-- DPRV, R14. -/
  dprv : Bool
  /-- PSR, R15. -/
  psr : BitVec 8
  /-- PCNT, R15. -/
  pcnt : BitVec 3
  /-- XST, R16. -/
  xst : ExtractorState
  /-- XOVL, R16. -/
  xovl : Bool
  /-- FLEN, R16. -/
  flen : BitVec 16
  /-- FACC, R16. -/
  facc : List Byte
  /-- DL, R17; the head is DL[0]. -/
  dl : List Tap
  /-- ACC, R17. -/
  acc : BitVec 56
  /-- CFG_PREAMBLE.PREAMBLE_LEN, R21. -/
  preambleLen : BitVec 16
  /-- CFG_SPS.SPS, R22. -/
  sps : BitVec 9
  /-- CFG_PHINC.PHINC, R23. -/
  phinc : BitVec 32
  /-- CFG_WAKE_LEN.WAKE_LEN, R24. -/
  wakeLen : BitVec 24
  /-- CFG_WAKE_PHINC.WAKE_PHINC, R25. -/
  wakePhinc : BitVec 32
  /-- CFG_BUF_LEN.BUF_LEN, R26. -/
  bufLen : BitVec 24
  /-- CFG_FIT.FIT, R27. -/
  fit : BitVec 2
  /-- COEF_ADDR.CADDR, R28. -/
  caddr : BitVec 12
  /-- ERR, R30: flags 5:0 and 9:8, LASTCODE 23:16. -/
  err : BitVec 32
  /-- ERRCMD, R31. -/
  errcmd : BitVec 32
  /-- COEF, R34. -/
  coef : CoefRam
  /-- PBUF, R36. -/
  pbuf : Bits
  /-- OBQ, R37; the head of each queue is the head of its list. -/
  obq : List Bool
  /-- OYQ, R37. -/
  oyq : List Byte
  /-- OFQ, R37. -/
  ofq : List FrameRecord
  /-- OSQ, R37. -/
  osq : List Sample
  /-- FRD, R37. -/
  frd : BitVec 16
  /-- The model's own: the constants of the instance (00_scope.md section 4), never changed. Log entry 3. -/
  par : Params
  /-- The model's own: the host's accesses not yet performed, first one first (20_memory.md R46). Log entry 1. -/
  bus : List Access
  /-- The model's own: what the latest access returned to the host, if it was a read (R170). Log entry 2. -/
  readData : Option Word
  /-- The model's own: how many hardware resets there have been, which selects COEF's power-up contents. Log entry 5. -/
  resets : Nat
  deriving DecidableEq, Repr

/-- Why a step stops with a fault: there is no such case. Every command word and every access has exactly one defined
outcome given the parameters (93_implementation_defined.md, end of section 1), U1 being taken as a free value (log
entries 4 and 9), so this type has no constructor. -/
inductive Fault where
  deriving DecidableEq, Repr

/-- Why a step is refused. -/
inductive Refusal where
  /-- Raised by an arm of exec whose command has no meaning yet; safe. No arm raises it: every command of
  30_encoding.md R63 has its meaning. -/
  | notModelled (mnemonic : String)
  deriving DecidableEq, Repr

/-- The machine right after the hardware reset numbered `resets` of the instance with parameters `p` (10_state.md R39;
70_reset_and_hazards.md R210). COEF is unspecified: nothing is listed. -/
def State.resetWith (p : Params) (resets : Nat) : State where
  crc := 0xFFFF
  scnt := 0
  dcnt := 0
  elvl := true
  dprv := true
  psr := 0
  pcnt := 0
  xst := .searching
  xovl := false
  flen := 0
  facc := []
  dl := List.replicate Config.dlLen .zero
  acc := 0
  preambleLen := 0
  sps := 0
  phinc := 0
  wakeLen := 0
  wakePhinc := 0
  bufLen := 0
  fit := 0
  caddr := 0
  err := 0
  errcmd := 0
  coef := []
  pbuf := []
  obq := []
  oyq := []
  ofq := []
  osq := []
  frd := 0
  par := p
  bus := []
  readData := none
  resets := resets

/-- The machine right after reset (R39). The instance is the one of 95_test_vectors.md and no access is pending: log
entries 1, 3 and 5; a statement about reset is made of `State.resetWith` for every instance. -/
def State.reset : State := State.resetWith vectorParams 0

end Sys2Proof.Machine
end

