-- ==== Sys2Proof/Machine/Operands.lean ====
section
/-! DEFINITION. What an operand stands for (30_encoding.md R62) and the one bit order of the hardware, most significant
bit first (20_memory.md R41). -/

namespace Sys2Proof.Machine

/-- `msb_first_N(v)` = [v[N−1], ..., v[0]] (00_scope.md section 5.1). -/
def msbFirst (n : Nat) (v : BitVec n) : Bits := (List.range n).map (fun i => v.getLsbD (n - 1 - i))

/-- The bits of a byte sequence, each byte most significant bit first (20_memory.md R41). -/
def bitsOfBytes (bs : List Byte) : Bits := bs.flatMap (msbFirst 8)

/-- The level a recovered-level byte denotes: 1 iff the byte is greater than zero (30_encoding.md R62). -/
def levelOf (v : Byte) : Bool := v != 0

/-- The symbol map `sym(l)` (43_gmsk_modulator.md R121): level 1 to +1, level 0 to −1. -/
def sym (l : Bool) : Tap := if l then .pos else .neg

/-- The integer a delay-line entry stands for (10_state.md R17). -/
def tapValue : Tap → Int
  | .neg => -1
  | .zero => 0
  | .pos => 1

/-- A bit as a number (00_scope.md section 5.1). -/
def bitOf (b : Bool) : BitVec 1 := BitVec.ofBool b

end Sys2Proof.Machine
end

