-- ==== Sys2Proof/Machine/Ops.lean ====
section
/-! DEFINITION. The shared operations on the state: recording an error and clearing it again, guarded commits, queue
capacity and pushes, the coefficient RAM, and the fold of a step function over a sequence. -/

namespace Sys2Proof.Machine

/-- What a meaning answers: every command completes its write to CMD (60_exceptions.md R191; 45 R171). -/
abbrev Answer := Host.Outcome State Fault Refusal

/-! ### Errors (60_exceptions.md R191, R198, R202) -/

/-- `raise E_x(w)` from a command whose word is `w` (R191): its flag, LASTCODE and ERRCMD; no other state changes. -/
def raiseCmd (k : ErrKind) (w : Word) (s : State) : State := { s with err := errAfter k s.err, errcmd := w }

/-- `raise E_x` from a register read, or a write to a register other than CMD (R191): ERRCMD is unchanged. -/
def raiseAccess (k : ErrKind) (s : State) : State := { s with err := errAfter k s.err }

/-- An event flag set by a command that completes (R198); LASTCODE and ERRCMD are unchanged. -/
def setEvent (k : EventKind) (s : State) : State := { s with err := eventAfter k s.err }

/-- What stands for the return from an error (R202): the host clears flags by writing 1s to ERR (10_state.md R30);
LASTCODE and ERRCMD stay. -/
def clearErr (v : Word) (s : State) : State := { s with err := w1cAfter v s.err }

/-- "Check everything, then act" (92_eei_decisions.md D23; 45 R171): the command's whole effect `t` if its test passes,
otherwise the error record on the unchanged state. -/
def commitIf (ok : Bool) (k : ErrKind) (w : Word) (s t : State) : State := if ok then t else raiseCmd k w s

/-! ### Queues (45_system_and_queues.md R182) -/

/-- `free(Q)` = DEPTH − cnt(Q), `none` when the depth is ∞ (R182). -/
def free (depth : Option Nat) (cnt : Nat) : Option Nat := depth.map (· - cnt)

/-- Whether a queue can take `n` more entries: not `free(Q) < n` (60_exceptions.md R195). -/
def fits (depth : Option Nat) (cnt n : Nat) : Bool :=
  match free depth cnt with
  | none => true
  | some f => decide (n ≤ f)

/-- Whether each output queue can take `n` more entries. -/
def fitsObq (s : State) (n : Nat) : Bool := fits s.par.obqDepth s.obq.length n
def fitsOyq (s : State) (n : Nat) : Bool := fits s.par.oyqDepth s.oyq.length n
def fitsOfq (s : State) (n : Nat) : Bool := fits s.par.ofqDepth s.ofq.length n
def fitsOsq (s : State) (n : Nat) : Bool := fits s.par.osqDepth s.osq.length n

/-- `push` of each entry in order, at the tail (10_state.md R37). -/
def pushObq (out : Bits) (s : State) : State := { s with obq := s.obq ++ out }
def pushOyq (out : List Byte) (s : State) : State := { s with oyq := s.oyq ++ out }
def pushOfq (out : List FrameRecord) (s : State) : State := { s with ofq := s.ofq ++ out }
def pushOsq (out : List Sample) (s : State) : State := { s with osq := s.osq ++ out }

/-- A command whose output is the bits `out` and whose unit registers become those of `t`: E_QFULL with no other effect
if OBQ cannot take all of it (R195), else the registers and then the pushes. -/
def emitObq (w : Word) (out : Bits) (s t : State) : State := commitIf (fitsObq s out.length) .qfull w s (pushObq out t)

/-- The same for bytes to OYQ. -/
def emitOyq (w : Word) (out : List Byte) (s t : State) : State :=
  commitIf (fitsOyq s out.length) .qfull w s (pushOyq out t)

/-- The same for frame records to OFQ. -/
def emitOfq (w : Word) (out : List FrameRecord) (s t : State) : State :=
  commitIf (fitsOfq s out.length) .qfull w s (pushOfq out t)

/-- The same for samples to OSQ. -/
def emitOsq (w : Word) (out : List Sample) (s t : State) : State :=
  commitIf (fitsOsq s out.length) .qfull w s (pushOsq out t)

/-! ### The coefficient RAM (10_state.md R34; 45_system_and_queues.md R181) -/

/-- The value written at index `k` since hardware reset, if any. -/
def coefFind (k : Nat) : CoefRam → Option (BitVec 25)
  | [] => none
  | (j, x) :: rest => if j = k then some x else coefFind k rest

/-- `COEF[k] <- x`, keeping the indexes strictly rising. -/
def coefInsert (k : Nat) (x : BitVec 25) : CoefRam → CoefRam
  | [] => [(k, x)]
  | (j, y) :: rest =>
    if k < j then (k, x) :: (j, y) :: rest
    else if k = j then (k, x) :: rest
    else (j, y) :: coefInsert k x rest

/-- The canonical form of COEF: indexes strictly rising, none past the last entry (2048). -/
def coefWfFrom (low : Nat) : CoefRam → Bool
  | [] => true
  | (j, _) :: rest => decide (low ≤ j) && decide (j < Config.coefDepth) && coefWfFrom (j + 1) rest

/-- The canonical form of COEF, from index 0. -/
def coefWf (ram : CoefRam) : Bool := coefWfFrom 0 ram

/-- `COEF[k]` (10_state.md R34): what was last written there, else the unspecified power-up value, a free value
(93_implementation_defined.md U1, `any value`; log entry 4). -/
def coefAt (s : State) (k : Nat) : BitVec 25 :=
  match coefFind k s.coef with
  | some x => x
  | none => Config.coefPowerUp s.resets k

/-! ### Folds (00_scope.md section 5.3) -/

/-- `run(step, s0, input)`: the final state and the concatenation of the per-step outputs in order. -/
def run {σ α β : Type} (step : σ → α → σ × List β) (s0 : σ) : List α → σ × List β
  | [] => (s0, [])
  | a :: rest =>
    let (s1, out) := step s0 a
    let (s2, more) := run step s1 rest
    (s2, out ++ more)

end Sys2Proof.Machine
end

