-- ==== Sys2Proof/Machine/Crc.lean ====
section
/-! DEFINITION. The CRC-16 checksum generator: 40_crc16.md, commands CRC.CLR, CRC.BIT, CRC.BYTE, CRC.EMIT. -/

namespace Sys2Proof.Machine

/-- `crc_step(reg, b)` (R80): feedback bit reg[15] xor b, shift left by one, exclusive-or with 0x1021 if it is 1. -/
def crcStep (reg : BitVec 16) (b : Bool) : BitVec 16 :=
  let fb := reg.getLsbD 15 ^^ b
  let shifted := reg <<< 1
  if fb then shifted ^^^ 0x1021 else shifted

/-- `crc_run(reg, bits)` (R81). -/
def crcRun (reg : BitVec 16) (bits : Bits) : BitVec 16 := bits.foldl crcStep reg

/-- The start value of CRC for a checksum (R81, R82; 10_state.md R11). -/
def crcInit : BitVec 16 := 0xFFFF

/-- SUM = not_16(reg) (R81). -/
def crcSum (reg : BitVec 16) : BitVec 16 := ~~~reg

/-- `checksum_value(bits)`, the integer SUM (R81). -/
def checksumValue (bits : Bits) : BitVec 16 := crcSum (crcRun crcInit bits)

/-- `checksum16(bits)`: SUM emitted most significant bit first (R81). -/
def checksum16 (bits : Bits) : Bits := msbFirst 16 (checksumValue bits)

/-- CRC.CLR (R82). -/
def execCrcClr (s : State) : Answer := .next { s with crc := crcInit }

/-- CRC.BIT b (R83). -/
def execCrcBit (b : Bool) (s : State) : Answer := .next { s with crc := crcStep s.crc b }

/-- CRC.BYTE v (R84): eight steps, v[7] first. -/
def execCrcByte (v : Byte) (s : State) : Answer := .next { s with crc := crcRun s.crc (msbFirst 8 v) }

/-- CRC.EMIT (R85): the 16 bits of not_16(CRC), most significant first, to OBQ; CRC is not changed. -/
def execCrcEmit (s : State) : Answer := .next (emitObq (encode .crcEmit) (msbFirst 16 (crcSum s.crc)) s s)

end Sys2Proof.Machine
end

