-- ==== Sys2Proof/Machine/Framing.lean ====
section
/-! DEFINITION. Payload buffer, bit-stuffer, bit-destuffer and framer: 41_stuffing_framing.md, commands PB.CLR, PB.BIT,
PB.BYTE, STF.CLR, STF.BIT, DSF.CLR, DSF.BIT, TX.FRAME. -/

namespace Sys2Proof.Machine

/-! ### Payload buffer -/

/-- Appending to PBUF with the capacity test of R92 and R93: E_PBFULL if it cannot take all of `bits`. -/
def appendPbuf (w : Word) (bits : Bits) (s : State) : State :=
  commitIf (decide (s.pbuf.length + bits.length ≤ s.par.pbufMax)) .pbfull w s { s with pbuf := s.pbuf ++ bits }

/-- PB.CLR (R91). -/
def execPbClr (s : State) : Answer := .next { s with pbuf := [] }

/-- PB.BIT b (R92). -/
def execPbBit (b : Bool) (s : State) : Answer := .next (appendPbuf (encode (.pbBit b)) [b] s)

/-- PB.BYTE v (R93): eight bits, v[7] first, or none. -/
def execPbByte (v : Byte) (s : State) : Answer := .next (appendPbuf (encode (.pbByte v)) (msbFirst 8 v) s)

/-! ### Bit-stuffer -/

/-- `stuff_step(cnt, b)` (R94): a 0 resets the count; the fifth 1 in a row is followed by an inserted 0. -/
def stuffStep (cnt : BitVec 3) (b : Bool) : BitVec 3 × Bits :=
  if b = false then (0, [false])
  else if cnt = 4 then (0, [true, false])
  else (cnt + 1, [true])

/-- `stuff(bits)` (R95). -/
def stuff (bits : Bits) : Bits := (run stuffStep 0 bits).2

/-- STF.CLR (R96). -/
def execStfClr (s : State) : Answer := .next { s with scnt := 0 }

/-- STF.BIT b (R97). -/
def execStfBit (b : Bool) (s : State) : Answer :=
  .next (emitObq (encode (.stfBit b)) (stuffStep s.scnt b).2 s { s with scnt := (stuffStep s.scnt b).1 })

/-! ### Bit-destuffer -/

/-- `destuff_step(cnt, b)` (R98; 90_conflicts.md C1): with count 5 a 0 is the stuffing bit and is discarded, a 1 is kept
and opens a run that is copied until a 0 ends it (count 6). -/
def destuffStep (cnt : BitVec 3) (b : Bool) : BitVec 3 × Bits :=
  if cnt = 5 then
    if b = false then (0, []) else (6, [true])
  else if cnt = 6 then
    if b = true then (6, [true]) else (0, [false])
  else if b = true then (cnt + 1, [true])
  else (0, [false])

/-- `destuff(bits)` (R99). -/
def destuff (bits : Bits) : Bits := (run destuffStep 0 bits).2

/-- DSF.CLR (R100). -/
def execDsfClr (s : State) : Answer := .next { s with dcnt := 0 }

/-- DSF.BIT b (R101). -/
def execDsfBit (b : Bool) (s : State) : Answer :=
  .next (emitObq (encode (.dsfBit b)) (destuffStep s.dcnt b).2 s { s with dcnt := (destuffStep s.dcnt b).1 })

/-! ### Framer -/

/-- FLAG as a byte, 0x7E (00_scope.md section 5.1). -/
def flagByte : Byte := 0x7E

/-- FLAG as the bit sequence "01111110" (00_scope.md section 5.1). -/
def flagBits : Bits := [false, true, true, true, true, true, true, false]

/-- `preamble(n)` (R102): element i is i mod 2. -/
def preamble (n : Nat) : Bits := (List.range n).map (fun i => i % 2 == 1)

/-- What the framer leaves: the CRC register after the payload, the stuffer's count after the body, the frame bits. -/
structure FrameRun where
  crc : BitVec 16
  scnt : BitVec 3
  bits : Bits
  deriving DecidableEq, Repr

/-- The run of R104 from fresh units (CRC from 0xFFFF, stuffer from 0): preamble, FLAG, body, FLAG. -/
def frameRun (payload : Bits) (n : Nat) : FrameRun :=
  let c := crcRun crcInit payload
  let body := run stuffStep 0 (payload ++ msbFirst 16 (crcSum c))
  { crc := c, scnt := body.1, bits := preamble n ++ flagBits ++ body.2 ++ flagBits }

/-- `frame(P, n)` (R103). -/
def frame (payload : Bits) (n : Nat) : Bits := preamble n ++ flagBits ++ stuff (payload ++ checksum16 payload) ++ flagBits

/-- TX.FRAME (R104). -/
def execTxFrame (s : State) : Answer :=
  let r := frameRun s.pbuf s.preambleLen.toNat
  .next (emitObq (encode .txFrame) r.bits s { s with crc := r.crc, scnt := r.scnt })

end Sys2Proof.Machine
end

