-- ==== Sys2Proof/Machine/Nrzi.lean ====
section
/-! DEFINITION. The NRZI encoder and decoder: 42_nrzi.md, commands NZE.CLR, NZE.BIT, NZD.CLR, NZD.LVL, TX.LEVELS. -/

namespace Sys2Proof.Machine

/-- `nrzi_enc_step(lvl, b)` (R110): a 0 toggles the level, a 1 holds it; the output is the level after it. -/
def nrziEncStep (lvl b : Bool) : Bool × Bits :=
  let l := if b = false then !lvl else lvl
  (l, [l])

/-- `nrzi_encode(bits)` (R111): the level starts at 1. -/
def nrziEncode (bits : Bits) : Bits := (run nrziEncStep true bits).2

/-- `nrzi_dec_step(prev, l)` (R114): a change decodes to 0, no change to 1. -/
def nrziDecStep (prev l : Bool) : Bool × Bits :=
  let b := if l = prev then true else false
  (l, [b])

/-- `nrzi_decode(levels)` (R115): the first level is compared with 1. -/
def nrziDecode (levels : Bits) : Bits := (run nrziDecStep true levels).2

/-- NZE.CLR (R112). -/
def execNzeClr (s : State) : Answer := .next { s with elvl := true }

/-- NZE.BIT b (R113). -/
def execNzeBit (b : Bool) (s : State) : Answer :=
  .next (emitObq (encode (.nzeBit b)) (nrziEncStep s.elvl b).2 s { s with elvl := (nrziEncStep s.elvl b).1 })

/-- NZD.CLR (R116). -/
def execNzdClr (s : State) : Answer := .next { s with dprv := true }

/-- NZD.LVL v (R117): v is one recovered level, any nonzero byte is level 1. -/
def execNzdLvl (v : Byte) (s : State) : Answer :=
  .next (emitObq (encode (.nzdLvl v)) (nrziDecStep s.dprv (levelOf v)).2 s
    { s with dprv := (nrziDecStep s.dprv (levelOf v)).1 })

/-- What the transmit pipeline up to levels leaves: CRC, SCNT, ELVL and the levels of the whole frame (R118). -/
structure LevelRun where
  crc : BitVec 16
  scnt : BitVec 3
  elvl : Bool
  levels : Bits
  deriving DecidableEq, Repr

/-- The run of R118 from fresh units: the frame of `frameRun` through the NRZI encoder from level 1. -/
def levelRun (payload : Bits) (n : Nat) : LevelRun :=
  let r := frameRun payload n
  let e := run nrziEncStep true r.bits
  { crc := r.crc, scnt := r.scnt, elvl := e.1, levels := e.2 }

/-- TX.LEVELS (R118). -/
def execTxLevels (s : State) : Answer :=
  let r := levelRun s.pbuf s.preambleLen.toNat
  .next (emitObq (encode .txLevels) r.levels s { s with crc := r.crc, scnt := r.scnt, elvl := r.elvl })

end Sys2Proof.Machine
end

