-- ==== Sys2Proof/Machine/Extractor.lean ====
section
/-! DEFINITION. Byte packer, frame extractor and flag detector, checksum verifier, receive pipeline:
44_frame_extractor.md, commands PCK.CLR, PCK.BIT, XTR.CLR, XTR.BYTE, RX.LVL, RX.END. -/

namespace Sys2Proof.Machine

/-! ### Byte packer -/

/-- `pack_step(psr, pcnt, b)` (R150): the first bit of a byte ends in bit 7; the eighth completes it. -/
def packStep (p : BitVec 8 × BitVec 3) (b : Bool) : (BitVec 8 × BitVec 3) × List Byte :=
  let x := (p.1 <<< 1) ||| (bitOf b).setWidth 8
  if p.2 = 7 then ((0, 0), [x]) else ((x, p.2 + 1), [])

/-- `pack(bits)` (R150). -/
def pack (bits : Bits) : List Byte := (run packStep (0, 0) bits).2

/-- PCK.CLR (R151). -/
def execPckClr (s : State) : Answer := .next { s with psr := 0, pcnt := 0 }

/-- PCK.BIT b (R152). -/
def execPckBit (b : Bool) (s : State) : Answer :=
  let r := packStep (s.psr, s.pcnt) b
  .next (emitOyq (encode (.pckBit b)) r.2 s { s with psr := r.1.1, pcnt := r.1.2 })

/-! ### Verifier -/

/-- The checksum a frame carries: its last two bytes, high byte first (R158; 20_memory.md R41). -/
def frameChecksum (fr : List Byte) : BitVec 16 := fr.getD (fr.length - 2) 0 ++ fr.getD (fr.length - 1) 0

/-- `verify(fr)` (R158): the payload bytes, and whether their checksum is the frame's. -/
def verify (fr : List Byte) : List Byte × Bool :=
  let pay := fr.take (fr.length - 2)
  (pay, checksumValue (bitsOfBytes pay) == frameChecksum fr)

/-- `verify_ok(fr)` (R158). -/
def verifyOk (fr : List Byte) : Bool := (verify fr).2

/-- The record pushed to OFQ for an emitted frame (R156): all its bytes and its `ok`. -/
def recordOf (fr : List Byte) : FrameRecord := { bytes := fr, ok := verifyOk fr }

/-! ### Frame extractor and flag detector -/

/-- What the extractor holds (10_state.md R16) but for FLEN, which is the length of FACC. -/
structure ExtractUnit where
  st : ExtractorState
  acc : List Byte
  ovl : Bool
  deriving DecidableEq, Repr

/-- One step's result (R153): the unit, the emitted frame or none, whether an overlong frame was dropped. -/
structure ExtractResult where
  unit : ExtractUnit
  out : Option (List Byte)
  drop : Bool
  deriving DecidableEq, Repr

/-- `extract_step(st, acc, ovl, v)` (R153). -/
def extractStep (frameMax : Nat) (x : ExtractUnit) (v : Byte) : ExtractResult :=
  if v = flagByte then
    { unit := { st := .inFrame, acc := [], ovl := false }
      out := if x.st = .inFrame ∧ x.ovl = false ∧ 2 < x.acc.length then some x.acc else none
      drop := decide (x.st = .inFrame ∧ x.ovl = true) }
  else if x.st = .searching then
    { unit := { st := .searching, acc := [], ovl := false }, out := none, drop := false }
  else if x.acc.length < frameMax then
    { unit := { st := .inFrame, acc := x.acc ++ [v], ovl := x.ovl }, out := none, drop := false }
  else
    { unit := { st := .inFrame, acc := x.acc, ovl := true }, out := none, drop := false }

/-- The extractor's clear state: SEARCHING, nothing accumulated (R155). -/
def extractStart : ExtractUnit := { st := .searching, acc := [], ovl := false }

/-- `extract_frames(bytes)` (R154): the frames emitted over a byte sequence, from the clear state. -/
def extractFrames (frameMax : Nat) (bytes : List Byte) : List (List Byte) :=
  (run (fun x v => let r := extractStep frameMax x v; (r.unit, r.out.toList)) extractStart bytes).2

/-- The extractor's registers as they stand in the state. -/
def extractUnit (s : State) : ExtractUnit := { st := s.xst, acc := s.facc, ovl := s.xovl }

/-- Storing the extractor's registers: FLEN is len(FACC) (10_state.md R16). -/
def setExtract (x : ExtractUnit) (s : State) : State :=
  { s with xst := x.st, facc := x.acc, flen := BitVec.ofNat 16 x.acc.length, xovl := x.ovl }

/-- XTR.CLR (R155). -/
def execXtrClr (s : State) : Answer := .next { s with xst := .searching, facc := [], flen := 0, xovl := false }

/-- A closed frame and the FOVF event as a command's effect (R156, R161): E_QFULL with no effect if a frame is due and
OFQ is full, else the registers of `t`, the record of the frame, and FOVF if an overlong frame was dropped. -/
def deliverFrame (w : Word) (out : Option (List Byte)) (drop : Bool) (s t : State) : State :=
  emitOfq w (out.toList.map recordOf) s (if drop then setEvent .fovf t else t)

/-- XTR.BYTE v (R156). -/
def execXtrByte (v : Byte) (s : State) : Answer :=
  let r := extractStep s.par.frameMax (extractUnit s) v
  .next (deliverFrame (encode (.xtrByte v)) r.out r.drop s (setExtract r.unit s))

/-! ### Receive pipeline -/

/-- The tuple S of R160: the receive chain's registers. -/
structure RxUnit where
  dprv : Bool
  dcnt : BitVec 3
  psr : BitVec 8
  pcnt : BitVec 3
  ext : ExtractUnit
  deriving DecidableEq, Repr

/-- One level's result (R160). -/
structure RxResult where
  unit : RxUnit
  out : Option (List Byte)
  drop : Bool
  deriving DecidableEq, Repr

/-- `rx_step(S, v)` (R160): NRZI decode, destuff, pack, extract, each fed what the one before it put out. -/
def rxStep (frameMax : Nat) (x : RxUnit) (v : Byte) : RxResult :=
  let n := nrziDecStep x.dprv (levelOf v)
  let d := destuffStep x.dcnt (n.2.headD false)
  let x1 := { x with dprv := n.1, dcnt := d.1 }
  match d.2 with
  | [] => { unit := x1, out := none, drop := false }
  | b :: _ =>
    let p := packStep (x.psr, x.pcnt) b
    let x2 := { x1 with psr := p.1.1, pcnt := p.1.2 }
    match p.2 with
    | [] => { unit := x2, out := none, drop := false }
    | y :: _ =>
      let e := extractStep frameMax x.ext y
      { unit := { x2 with ext := e.unit }, out := e.out, drop := e.drop }

/-- The receive chain's registers as they stand in the state. -/
def rxUnit (s : State) : RxUnit :=
  { dprv := s.dprv, dcnt := s.dcnt, psr := s.psr, pcnt := s.pcnt, ext := extractUnit s }

/-- Storing the receive chain's registers; FLEN <- len(FACC) (R161). -/
def setRx (x : RxUnit) (s : State) : State :=
  setExtract x.ext { s with dprv := x.dprv, dcnt := x.dcnt, psr := x.psr, pcnt := x.pcnt }

/-- RX.LVL v (R161). -/
def execRxLvl (v : Byte) (s : State) : Answer :=
  let r := rxStep s.par.frameMax (rxUnit s) v
  .next (deliverFrame (encode (.rxLvl v)) r.out r.drop s (setRx r.unit s))

/-- RX.END (R162): the whole receive chain at its start values; an incomplete frame and a partial byte are dropped. -/
def execRxEnd (s : State) : Answer :=
  .next { s with
    dprv := true, dcnt := 0, psr := 0, pcnt := 0, xst := .searching, facc := [], flen := 0, xovl := false }

end Sys2Proof.Machine
end

