-- ==== Sys2Proof/Machine/Modulator.lean ====
section
/-! DEFINITION. The GMSK modulator: 43_gmsk_modulator.md, commands MOD.CLR, MOD.SYM, MOD.FLUSH, MOD.TONE, MOD.SIL,
TX.BURST. All arithmetic is exact (R120; 45_system_and_queues.md R183). -/

namespace Sys2Proof.Machine

/-- The sum of products of R124 over the taps in use: COEF[k] · x_k for every k both lists have. -/
def firSum : List (BitVec 25) → List Tap → Int
  | c :: cs, x :: xs => (c.toNat : Int) * tapValue x + firSum cs xs
  | _, _ => 0

/-- The taps in use, COEF[0] to COEF[8·SPS] (R123, R124). -/
def usedCoefs (s : State) : List (BitVec 25) := (List.range (8 * s.sps.toNat + 1)).map (coefAt s)

/-- `fir_sample(DL, u)` (R124): the new delay line (the oldest entry is dropped) and the integer F. -/
def firSample (coefs : List (BitVec 25)) (dl : List Tap) (u : Tap) : List Tap × Int :=
  ((u :: dl).take Config.dlLen, firSum coefs (u :: dl))

/-- `nco_step(ACC, F)` (R125): (ACC + F·PHINC) mod 2^56, F signed, PHINC unsigned. -/
def ncoStep (phinc : BitVec 32) (acc : BitVec 56) (f : Int) : BitVec 56 := acc + BitVec.ofInt 56 (f * phinc.toNat)

/-- `sample_gen(ACC)` (R126): the table entry at the top 12 bits of ACC. -/
def sampleGen (lut : List Sample) (acc : BitVec 56) : Sample := lut.getD (acc >>> 44).toNat Sample.silent

/-- The modulator's own registers (10_state.md R17). -/
structure ModUnit where
  dl : List Tap
  acc : BitVec 56
  deriving DecidableEq, Repr

/-- DL all 0 and ACC = 0 (R129; 10_state.md R17). -/
def modStart : ModUnit := { dl := List.replicate Config.dlLen .zero, acc := 0 }

/-- The modulator's registers as they stand in the state. -/
def modUnit (s : State) : ModUnit := { dl := s.dl, acc := s.acc }

/-- `mod_sample(u)` (R128): one step of FIR, NCO and sample generator; the sample uses the updated ACC. -/
def modSample (coefs : List (BitVec 25)) (phinc : BitVec 32) (lut : List Sample) (m : ModUnit) (u : Tap) :
    ModUnit × List Sample :=
  let f := firSample coefs m.dl u
  let acc := ncoStep phinc m.acc f.2
  ({ dl := f.1, acc := acc }, [sampleGen lut acc])

/-- `mod_sample` over a sequence of inputs, with the configuration of the state. -/
def modRun (s : State) (m : ModUnit) (us : List Tap) : ModUnit × List Sample :=
  run (modSample (usedCoefs s) s.phinc s.par.lut) m us

/-- One sample of the tone (R132): ACC advances by sext_32(WAKE_PHINC) · 2^24 modulo 2^56. -/
def toneSample (wakePhinc : BitVec 32) (lut : List Sample) (acc : BitVec 56) (_ : Unit) : BitVec 56 × List Sample :=
  let acc' := acc + BitVec.ofInt 56 (wakePhinc.toInt * 2 ^ 24)
  (acc', [sampleGen lut acc'])

/-- `n` samples of the tone from the phase `acc` (R132). -/
def toneRun (s : State) (acc : BitVec 56) (n : Nat) : BitVec 56 × List Sample :=
  run (toneSample s.wakePhinc s.par.lut) acc (List.replicate n ())

/-- "SPS legal" (section 3): 1 ≤ SPS ≤ 256. -/
def spsLegal (s : State) : Bool := decide (1 ≤ s.sps.toNat) && decide (s.sps.toNat ≤ Config.spsMax)

/-- MOD.CLR (R129). -/
def execModClr (s : State) : Answer := .next { s with dl := modStart.dl, acc := modStart.acc }

/-- A modulator run over `us` as a command (R130, R131): E_CFG unless SPS is legal, then E_QFULL unless OSQ can take one
sample for each input, then the run. -/
def modCommand (w : Word) (us : List Tap) (s : State) : State :=
  let r := modRun s (modUnit s) us
  commitIf (spsLegal s) .cfg w s
    (commitIf (fitsOsq s us.length) .qfull w s (pushOsq r.2 { s with dl := r.1.dl, acc := r.1.acc }))

/-- MOD.SYM b (R130): SPS samples of the symbol of level b. -/
def execModSym (b : Bool) (s : State) : Answer :=
  .next (modCommand (encode (.modSym b)) (List.replicate s.sps.toNat (sym b)) s)

/-- MOD.FLUSH (R131): 8·SPS samples of nothing, the filter's tail. -/
def execModFlush (s : State) : Answer :=
  .next (modCommand (encode .modFlush) (List.replicate (8 * s.sps.toNat) .zero) s)

/-- MOD.TONE n (R132): the delay line is not touched, no configuration is checked. -/
def execModTone (n : Nat) (s : State) : Answer :=
  let r := toneRun s s.acc n
  .next (commitIf (fitsOsq s n) .qfull (encode (.modTone n)) s (pushOsq r.2 { s with acc := r.1 }))

/-- MOD.SIL n (R133): n silent samples; neither ACC nor DL changes. -/
def execModSil (n : Nat) (s : State) : Answer :=
  .next (commitIf (fitsOsq s n) .qfull (encode (.modSil n)) s (pushOsq (List.replicate n Sample.silent) s))

/-! ### The burst -/

/-- What the modulator is fed for a level sequence (R134): each level's symbol SPS times, then 8·SPS times nothing. -/
def burstInputs (sps : Nat) (levels : Bits) : List Tap :=
  levels.flatMap (fun l => List.replicate sps (sym l)) ++ List.replicate (8 * sps) .zero

/-- `burst(L)` (R134): from DL all 0 and ACC = 0 the wake tone, then the frame, the phase running on. -/
def burst (s : State) (levels : Bits) : ModUnit × List Sample :=
  let tone := toneRun s modStart.acc s.wakeLen.toNat
  let frm := modRun s { modStart with acc := tone.1 } (burstInputs s.sps.toNat levels)
  (frm.1, tone.2 ++ frm.2)

/-- `n` silent samples. -/
def silence (n : Nat) : List Sample := List.replicate n Sample.silent

/-- `fit(B)` (R135): the output and whether the burst was cut. FIT = 3 does not reach it (R136). -/
def fitBurst (fit : BitVec 2) (bufLen : Nat) (b : List Sample) : List Sample × Bool :=
  if fit = 0 then (b, false)
  else if fit = 1 then
    if b.length ≤ bufLen then (b ++ silence (bufLen - b.length), false) else (b.take bufLen, true)
  else
    let k := bufLen / b.length
    if 1 ≤ k then ((List.replicate k b).flatten ++ silence (bufLen - k * b.length), false) else (b.take bufLen, true)

/-- The configuration tests of TX.BURST (R136; 60_exceptions.md R193). -/
def burstCfgOk (s : State) : Bool :=
  spsLegal s && (s.fit != 3) && !((s.fit == 1 || s.fit == 2) && s.bufLen == 0)

/-- TX.BURST (R136). -/
def execTxBurst (s : State) : Answer :=
  let r := levelRun s.pbuf s.preambleLen.toNat
  let b := burst s r.levels
  let o := fitBurst s.fit s.bufLen.toNat b.2
  let t := { s with crc := r.crc, scnt := r.scnt, elvl := r.elvl, dl := b.1.dl, acc := b.1.acc }
  let t' := if o.2 then setEvent .trunc t else t
  .next (commitIf (burstCfgOk s) .cfg (encode .txBurst) s (emitOsq (encode .txBurst) o.1 s t'))

end Sys2Proof.Machine
end

