-- ==== Sys2Proof/Machine/System.lean ====
section
/-! DEFINITION. System and queue commands: 45_system_and_queues.md R172 to R176 (NOP, SRST, CLR.ALL, Q.FLUSH, FRQ.DROP),
and hardware reset (70_reset_and_hazards.md R210). -/

namespace Sys2Proof.Machine

/-- NOP (R172). -/
def execNop (s : State) : Answer := .next s

/-- SRST (R173): every piece of state at its value of 10_state.md R39 except COEF, which keeps its contents. The model's
own fields stay (log entry 10). -/
def execSrst (s : State) : Answer :=
  .next { State.resetWith s.par s.resets with coef := s.coef, bus := s.bus, readData := s.readData }

/-- CLR.ALL (R174): the unit registers only. -/
def execClrAll (s : State) : Answer :=
  .next { s with
    crc := crcInit, scnt := 0, dcnt := 0, elvl := true, dprv := true, psr := 0, pcnt := 0,
    xst := .searching, facc := [], flen := 0, xovl := false, dl := modStart.dl, acc := modStart.acc }

/-- Q.FLUSH m (R175): bit 0 OBQ, bit 1 OYQ, bit 2 OFQ (and FRD), bit 3 OSQ. -/
def execQFlush (m : BitVec 4) (s : State) : Answer :=
  .next { s with
    obq := if m.getLsbD 0 then [] else s.obq
    oyq := if m.getLsbD 1 then [] else s.oyq
    ofq := if m.getLsbD 2 then [] else s.ofq
    frd := if m.getLsbD 2 then 0 else s.frd
    osq := if m.getLsbD 3 then [] else s.osq }

/-- FRQ.DROP (R176): the head record goes, read or not; E_QEMPTY when there is none. -/
def execFrqDrop (s : State) : Answer :=
  .next (commitIf (!s.ofq.isEmpty) .qempty (encode .frqDrop) s { s with ofq := s.ofq.tail, frd := 0 })

/-- Hardware reset (70_reset_and_hazards.md R210): every piece of state at its value of 10_state.md R39, COEF unspecified
anew. The instance and the accesses still to come are the model's own and stay (log entry 10). -/
def hardwareReset (s : State) : State := { State.resetWith s.par (s.resets + 1) with bus := s.bus }

end Sys2Proof.Machine
end

