-- ==== Sys2Proof/Machine/Dispatch.lean ====
section
/-! DEFINITION. One command: 45_system_and_queues.md R171, "perform the pseudocode of the row's rule". -/

namespace Sys2Proof.Machine

def exec (i : Instr) (s : State) : Host.Outcome State Fault Refusal :=
  match i with
  | .nop => Sys2Proof.Machine.execNop s
  | .srst => Sys2Proof.Machine.execSrst s
  | .clrAll => Sys2Proof.Machine.execClrAll s
  | .qFlush m => Sys2Proof.Machine.execQFlush m s
  | .frqDrop => Sys2Proof.Machine.execFrqDrop s
  | .crcClr => Sys2Proof.Machine.execCrcClr s
  | .crcBit b => Sys2Proof.Machine.execCrcBit b s
  | .crcByte v => Sys2Proof.Machine.execCrcByte v s
  | .crcEmit => Sys2Proof.Machine.execCrcEmit s
  | .pbClr => Sys2Proof.Machine.execPbClr s
  | .pbBit b => Sys2Proof.Machine.execPbBit b s
  | .pbByte v => Sys2Proof.Machine.execPbByte v s
  | .stfClr => Sys2Proof.Machine.execStfClr s
  | .stfBit b => Sys2Proof.Machine.execStfBit b s
  | .dsfClr => Sys2Proof.Machine.execDsfClr s
  | .dsfBit b => Sys2Proof.Machine.execDsfBit b s
  | .nzeClr => Sys2Proof.Machine.execNzeClr s
  | .nzeBit b => Sys2Proof.Machine.execNzeBit b s
  | .nzdClr => Sys2Proof.Machine.execNzdClr s
  | .nzdLvl v => Sys2Proof.Machine.execNzdLvl v s
  | .pckClr => Sys2Proof.Machine.execPckClr s
  | .pckBit b => Sys2Proof.Machine.execPckBit b s
  | .xtrClr => Sys2Proof.Machine.execXtrClr s
  | .xtrByte v => Sys2Proof.Machine.execXtrByte v s
  | .modClr => Sys2Proof.Machine.execModClr s
  | .modSym b => Sys2Proof.Machine.execModSym b s
  | .modFlush => Sys2Proof.Machine.execModFlush s
  | .modTone n => Sys2Proof.Machine.execModTone n s
  | .modSil n => Sys2Proof.Machine.execModSil n s
  | .txFrame => Sys2Proof.Machine.execTxFrame s
  | .txLevels => Sys2Proof.Machine.execTxLevels s
  | .txBurst => Sys2Proof.Machine.execTxBurst s
  | .rxLvl v => Sys2Proof.Machine.execRxLvl v s
  | .rxEnd => Sys2Proof.Machine.execRxEnd s

end Sys2Proof.Machine
end

