-- ==== Sys2Proof/Machine/Registers.lean ====
section
/-! DEFINITION. The registers the host sees (10_state.md R20 to R33) and what reading or writing each does
(45_system_and_queues.md R170, R177 to R181), but for a write to CMD. -/

namespace Sys2Proof.Machine

/-! ### Views (10_state.md R29, R32, R33) -/

/-- A Boolean as a one-bit field. -/
def bit1 (b : Bool) : BitVec 1 := BitVec.ofBool b

/-- XST as the bit the host sees: 0 SEARCHING, 1 IN_FRAME (10_state.md R16). -/
def xstBit (x : ExtractorState) : Bool := decide (x = .inFrame)

/-- STATUS (R29): bits 5:0 INFR, PB_NE, OSQ_NE, OFQ_NE, OYQ_NE, OBQ_NE. -/
def statusView (s : State) : Word :=
  (0 : BitVec 26) ++ bit1 (xstBit s.xst) ++ bit1 (!s.pbuf.isEmpty) ++ bit1 (!s.osq.isEmpty) ++ bit1 (!s.ofq.isEmpty) ++
    bit1 (!s.oyq.isEmpty) ++ bit1 (!s.obq.isEmpty)

/-- ST_CRC (R32): SUM in the high half, CRC in the low half. -/
def stCrcView (s : State) : Word := crcSum s.crc ++ s.crc

/-- ST_CODEC (R32): [25] XOVL, [24] XST, [23:16] PSR, [14:12] PCNT, [9] DPRV, [8] ELVL, [6:4] DCNT, [2:0] SCNT. -/
def stCodecView (s : State) : Word :=
  (0 : BitVec 6) ++ bit1 s.xovl ++ bit1 (xstBit s.xst) ++ s.psr ++ (0 : BitVec 1) ++ s.pcnt ++ (0 : BitVec 2) ++
    bit1 s.dprv ++ bit1 s.elvl ++ (0 : BitVec 1) ++ s.dcnt ++ (0 : BitVec 1) ++ s.scnt

/-- ST_ACC_LO and ST_ACC_HI (R32): ACC[31:0], and ACC[55:32] in bits 23:0. -/
def stAccLoView (s : State) : Word := s.acc.extractLsb' 0 32
def stAccHiView (s : State) : Word := (s.acc.extractLsb' 32 24).setWidth 32

/-- A count register (R33, R182): min(cnt, 2^32 − 1). -/
def countView (cnt : Nat) : Word := BitVec.ofNat 32 (min cnt (2 ^ 32 - 1))

/-- VALID, bit 31 of the pop registers (R33). -/
def validBit : Word := 0x80000000

/-- OFQ_HEAD (R33, R179): VALID, OK in bit 16, LEN in bits 15:0 of the head record; 0 when OFQ is empty. -/
def ofqHeadView (s : State) : Word :=
  match s.ofq with
  | [] => 0
  | fr :: _ => validBit ||| ((bit1 fr.ok).setWidth 32 <<< 16) ||| (BitVec.ofNat 16 fr.bytes.length).setWidth 32

/-! ### Reads with a side effect (45 R177 to R181): the new state and the value returned -/

/-- A refused read (60_exceptions.md R191): the error record, and 0 returned. -/
def refusedRead (k : ErrKind) (s : State) : State × Word := (raiseAccess k s, 0)

/-- OBQ_POP (R177). -/
def readObqPop (s : State) : State × Word :=
  match s.obq with
  | [] => refusedRead .qempty s
  | b :: rest => ({ s with obq := rest }, validBit ||| (bit1 b).setWidth 32)

/-- OYQ_POP (R178). -/
def readOyqPop (s : State) : State × Word :=
  match s.oyq with
  | [] => refusedRead .qempty s
  | y :: rest => ({ s with oyq := rest }, validBit ||| y.setWidth 32)

/-- OFQ_DATA (R179): byte FRD of the head record; the record stays at the head. -/
def readOfqData (s : State) : State × Word :=
  match s.ofq with
  | [] => refusedRead .qempty s
  | fr :: _ =>
    match fr.bytes[s.frd.toNat]? with
    | none => refusedRead .qempty s
    | some y => ({ s with frd := s.frd + 1 }, validBit ||| y.setWidth 32)

/-- OSQ_POP (R180): Q in the high half, I in the low half; no VALID bit. -/
def readOsqPop (s : State) : State × Word :=
  match s.osq with
  | [] => refusedRead .qempty s
  | x :: rest => ({ s with osq := rest }, x.q ++ x.i)

/-- `coef_read()` (R181): COEF[CADDR], then CADDR + 1; E_REGACC with CADDR ≥ 2049. -/
def coefRead (s : State) : State × Word :=
  if Config.coefDepth ≤ s.caddr.toNat then refusedRead .regacc s
  else ({ s with caddr := s.caddr + 1 }, (coefAt s s.caddr.toNat).setWidth 32)

/-- `coef_write(v)` (R181): COEF[CADDR] <- v[24:0], then CADDR + 1; E_REGACC with CADDR ≥ 2049. -/
def coefWrite (v : Word) (s : State) : State :=
  if Config.coefDepth ≤ s.caddr.toNat then raiseAccess .regacc s
  else { s with coef := coefInsert s.caddr.toNat (v.setWidth 25) s.coef, caddr := s.caddr + 1 }

/-! ### The two host operations (45 R170) -/

/-- `reg_read(n)` (R170): the new state and the 32-bit value returned. Bits not listed read 0 (10_state.md R20). -/
def regRead (n : Nat) (s : State) : State × Word :=
  match n with
  | 0 => refusedRead .regacc s
  | 1 => (s, statusView s)
  | 2 => (s, s.err)
  | 3 => (s, s.errcmd)
  | 4 => (s, s.preambleLen.setWidth 32)
  | 5 => (s, s.sps.setWidth 32)
  | 6 => (s, s.phinc)
  | 7 => (s, s.wakeLen.setWidth 32)
  | 8 => (s, s.wakePhinc)
  | 9 => (s, s.bufLen.setWidth 32)
  | 10 => (s, s.fit.setWidth 32)
  | 11 => (s, s.caddr.setWidth 32)
  | 12 => coefRead s
  | 13 => (s, stCrcView s)
  | 14 => (s, stCodecView s)
  | 15 => (s, s.flen.setWidth 32)
  | 16 => (s, stAccLoView s)
  | 17 => (s, stAccHiView s)
  | 18 => (s, BitVec.ofNat 32 s.pbuf.length)
  | 19 => (s, countView s.obq.length)
  | 20 => readObqPop s
  | 21 => (s, countView s.oyq.length)
  | 22 => readOyqPop s
  | 23 => (s, countView s.ofq.length)
  | 24 => (s, ofqHeadView s)
  | 25 => readOfqData s
  | 26 => (s, countView s.osq.length)
  | 27 => readOsqPop s
  | 28 => (s, BitVec.ofNat 32 s.par.amp)
  | _ => refusedRead .regacc s

/-- `reg_write(n, v)` for every register but CMD (R170): a field takes the written bits as they are (10_state.md R20);
a read-only register, or a number above 28, raises E_REGACC and nothing is stored. -/
def regWriteField (n : Nat) (v : Word) (s : State) : State :=
  match n with
  | 2 => clearErr v s
  | 4 => { s with preambleLen := v.setWidth 16 }
  | 5 => { s with sps := v.setWidth 9 }
  | 6 => { s with phinc := v }
  | 7 => { s with wakeLen := v.setWidth 24 }
  | 8 => { s with wakePhinc := v }
  | 9 => { s with bufLen := v.setWidth 24 }
  | 10 => { s with fit := v.setWidth 2 }
  | 11 => { s with caddr := v.setWidth 12 }
  | 12 => coefWrite v s
  | _ => raiseAccess .regacc s

end Sys2Proof.Machine
end

