-- ==== Sys2Proof/Machine/HostAccess.lean ====
section
/-! DEFINITION. Command execution and the host's accesses: 45_system_and_queues.md R170, R171; 70_reset_and_hazards.md
R210; and the accesses the host has still to make (20_memory.md R46). -/

namespace Sys2Proof.Machine

/-- `execute(w)` (R171): the command the word selects, or E_ILLCMD (30_encoding.md R64) and nothing else. -/
def execute (w : Word) (s : State) : Answer :=
  match decode w with
  | .ok i => exec i s
  | .error _ => .next (raiseCmd .illcmd w s)

/-- `reg_write(n, v)` (R170): a write to CMD executes the word. -/
def regWrite (n : Nat) (v : Word) (s : State) : Answer :=
  match n with
  | 0 => execute v s
  | _ => .next (regWriteField n v s)

/-- A read of register `n`: the state it leaves, with the value returned to the host in `readData`. -/
def hostRead (n : Nat) (s : State) : State :=
  let r := regRead n s
  { r.1 with readData := some r.2 }

/-- One access, performed completely (20_memory.md R44, R46). -/
def perform (a : Access) (s : State) : Answer :=
  match a with
  | .write n v => regWrite n v s
  | .read n => .next (hostRead n s)
  | .hardwareReset => .next (hardwareReset s)

/-- The state in which the first pending access is performed: it is pending no longer, the rest still is, and no value
has been returned by it yet. -/
def accept (rest : List Access) (s : State) : State := { s with bus := rest, readData := none }

/-- The access that issues the command word made of the bits `w` of a table row of `nbits` bits: a write to CMD. -/
def commandAccess (nbits w : Nat) : Access := .write 0 (BitVec.ofNat 32 (tableWord nbits w))

end Sys2Proof.Machine
end

