-- ==== Sys2Proof/Machine/Step.lean ====
section
/-! DEFINITION. One step of the machine: the host's next access, performed completely; with none pending "the block does
nothing between accesses" (92_eei_decisions.md D2). -/

namespace Sys2Proof.Machine

/-- The first pending access is performed (20_memory.md R46). Log entry 1. -/
def step (s : State) : Host.Outcome State Fault Refusal :=
  match s.bus with
  | [] => .next s
  | a :: rest => perform a (accept rest s)

/-- `s` with the host's next access the write of that command word to CMD, before whatever was pending. -/
def State.withFetchWord (s : State) (nbits w : Nat) : State := { s with bus := commandAccess nbits w :: s.bus }

end Sys2Proof.Machine
end

