-- ==== Sys2Proof/Safety.lean ====
section
/-! DEFINITION. What counts as a good state and a good run of ASK-CORE, and the terms the statements are made in: the
ranges the spec gives every piece of state, room in a queue, several commands in order, the filter's output in closed
form. -/

namespace Sys2Proof.Safety

open Sys2Proof.Machine

/-- A queue of depth `depth` (`none` is ∞) that holds `cnt` entries can take `n` more (45_system_and_queues.md R182). -/
def room (depth : Option Nat) (cnt n : Nat) : Bool :=
  match depth with
  | none => true
  | some d => decide (cnt + n ≤ d)

/-- The reserved bits of ERR, 7:6, 15:10 and 31:24 (10_state.md R30: "All other bits read 0"). -/
def errReserved : BitVec 32 := 0xFF00FCC0

/-- The ranges 10_state.md gives the state, and what 44, 45 and 43 say never happens to it. -/
structure Inv (s : State) : Prop where
  /-- The instance meets the constraints of 00_scope.md section 4 and the named properties of LUT. -/
  par_wf : s.par.wf = true
  /-- SCNT is 0 to 4 (R12). -/
  scnt_le : s.scnt.toNat ≤ 4
  /-- DCNT is 0 to 6 (R13). -/
  dcnt_le : s.dcnt.toNat ≤ 6
  /-- PSR bits PCNT and above are 0 (R15). -/
  psr_lt : s.psr.toNat < 2 ^ s.pcnt.toNat
  /-- FLEN is always len(FACC) (R16). -/
  flen_eq : s.flen.toNat = s.facc.length
  /-- FACC holds at most FRAME_MAX bytes (R16). -/
  facc_le : s.facc.length ≤ s.par.frameMax
  /-- In SEARCHING nothing is accumulated and XOVL is 0 (R16). -/
  searching_empty : s.xst = .searching → s.facc = [] ∧ s.xovl = false
  /-- XOVL marks a frame that has filled the accumulator (R16). -/
  overlong_full : s.xovl = true → s.facc.length = s.par.frameMax
  /-- DL has 2048 entries (R17). -/
  dl_len : s.dl.length = Config.dlLen
  /-- COEF is in its canonical form, every index at most 2048 (R34). -/
  coef_wf : coefWf s.coef = true
  /-- PBUF holds at most PBUF_MAX bits (R36). -/
  pbuf_le : s.pbuf.length ≤ s.par.pbufMax
  /-- No queue holds more than its depth (R37; 45 R182). -/
  obq_room : room s.par.obqDepth s.obq.length 0 = true
  oyq_room : room s.par.oyqDepth s.oyq.length 0 = true
  ofq_room : room s.par.ofqDepth s.ofq.length 0 = true
  osq_room : room s.par.osqDepth s.osq.length 0 = true
  /-- A frame record has 3 to FRAME_MAX bytes, and its `ok` is that of `verify` (R37). -/
  ofq_records : ∀ r ∈ s.ofq, 3 ≤ r.bytes.length ∧ r.bytes.length ≤ s.par.frameMax ∧ r.ok = verifyOk r.bytes
  /-- FRD never passes the end of the head record, and is 0 when there is none (R37; 45 R179). -/
  frd_le : s.frd.toNat ≤ (s.ofq.head?.map (fun r => r.bytes.length)).getD 0
  /-- Every sample is an entry of LUT or silent (43 R137 (a)). -/
  osq_samples : ∀ x ∈ s.osq, x = Sample.silent ∨ x ∈ s.par.lut
  /-- The reserved bits of ERR are 0 (R30). -/
  err_reserved : s.err &&& errReserved = 0
  /-- LASTCODE is a code, 1 to 6, or 0 (R30). -/
  lastCode_le : (s.err.extractLsb' 16 8).toNat ≤ 6

/-- A command's write to CMD completes: "the write to CMD completes normally" (60_exceptions.md R191). -/
def Completes (i : Instr) (s : State) : Prop := ∃ t, exec i s = .next t

/-- Several commands one after the other, stopping where one does not complete. -/
def runCommands : List Instr → State → Answer
  | [], s => .next s
  | i :: rest, s =>
    match exec i s with
    | .next t => runCommands rest t
    | .fault f => .fault f
    | .refused r => .refused r

/-- The filter's output `n` samples after `s`, the input having been `u` since: the sum over the taps in use of
COEF[k] times the input of k samples ago (43_gmsk_modulator.md R123, R124). -/
def filterOutput (s : State) (u : Tap) (n : Nat) : Int :=
  ∑ k ∈ Finset.range (8 * s.sps.toNat + 1),
    ((coefAt s k).toNat : Int) * tapValue ((List.replicate (n + 1) u ++ s.dl).getD k .zero)

/-- The phase after `n + 1` samples of the input `u`: ACC plus PHINC times the sum of the filter's outputs, modulo 2^56
(R125). -/
def phaseAfter (s : State) (u : Tap) (n : Nat) : BitVec 56 :=
  s.acc + BitVec.ofInt 56 ((∑ j ∈ Finset.range (n + 1), filterOutput s u j) * s.phinc.toNat)

/-- The table entry a phase selects (R126). -/
def tableAt (s : State) (phase : BitVec 56) : Sample := s.par.lut.getD (phase.toNat / 2 ^ 44) Sample.silent

/-- The configuration registers, the coefficient RAM and the model's own fields of `t` are those of `s`. -/
def SameSetup (s t : State) : Prop :=
  t.preambleLen = s.preambleLen ∧ t.sps = s.sps ∧ t.phinc = s.phinc ∧ t.wakeLen = s.wakeLen ∧
  t.wakePhinc = s.wakePhinc ∧ t.bufLen = s.bufLen ∧ t.fit = s.fit ∧ t.caddr = s.caddr ∧ t.coef = s.coef ∧
  t.par = s.par ∧ t.bus = s.bus ∧ t.readData = s.readData ∧ t.resets = s.resets

/-- The receive units of `t` are those of `s` (70_reset_and_hazards.md R216 (e)). -/
def SameReceive (s t : State) : Prop :=
  t.dprv = s.dprv ∧ t.dcnt = s.dcnt ∧ t.psr = s.psr ∧ t.pcnt = s.pcnt ∧ t.xst = s.xst ∧ t.xovl = s.xovl ∧
  t.flen = s.flen ∧ t.facc = s.facc

/-- The transmit units of `t` are those of `s` (R216 (e)). -/
def SameTransmit (s t : State) : Prop :=
  t.crc = s.crc ∧ t.scnt = s.scnt ∧ t.elvl = s.elvl ∧ t.dl = s.dl ∧ t.acc = s.acc

/-- The transmit side: checksum, payload buffer, stuffer, NRZI encoder, modulator and the transmit pipeline. -/
def isTransmit : Instr → Bool
  | .crcClr | .crcBit _ | .crcByte _ | .crcEmit | .pbClr | .pbBit _ | .pbByte _ | .stfClr | .stfBit _ | .nzeClr
  | .nzeBit _ | .modClr | .modSym _ | .modFlush | .modTone _ | .modSil _ | .txFrame | .txLevels | .txBurst => true
  | .nop | .srst | .clrAll | .qFlush _ | .frqDrop | .dsfClr | .dsfBit _ | .nzdClr | .nzdLvl _ | .pckClr | .pckBit _
  | .xtrClr | .xtrByte _ | .rxLvl _ | .rxEnd => false

/-- The receive side: NRZI decoder, destuffer, packer, extractor and the receive pipeline. -/
def isReceive : Instr → Bool
  | .dsfClr | .dsfBit _ | .nzdClr | .nzdLvl _ | .pckClr | .pckBit _ | .xtrClr | .xtrByte _ | .rxLvl _ | .rxEnd => true
  | .nop | .srst | .clrAll | .qFlush _ | .frqDrop | .crcClr | .crcBit _ | .crcByte _ | .crcEmit | .pbClr | .pbBit _
  | .pbByte _ | .stfClr | .stfBit _ | .nzeClr | .nzeBit _ | .modClr | .modSym _ | .modFlush | .modTone _ | .modSil _
  | .txFrame | .txLevels | .txBurst => false

/-- `s` and `s'` hold the same payload, the same configuration and the same constants a transmit command reads: what
its output may depend on (43 R136; 41 R104). -/
def SameInputs (s s' : State) : Prop :=
  s'.pbuf = s.pbuf ∧ s'.preambleLen = s.preambleLen ∧ s'.sps = s.sps ∧ s'.phinc = s.phinc ∧ s'.wakeLen = s.wakeLen ∧
  s'.wakePhinc = s.wakePhinc ∧ s'.bufLen = s.bufLen ∧ s'.fit = s.fit ∧ s'.par.lut = s.par.lut ∧
  ∀ k ≤ 8 * s.sps.toNat, coefAt s' k = coefAt s k

/-- The receive chain right after RX.END (44_frame_extractor.md R162). -/
def rxStart : RxUnit := { dprv := true, dcnt := 0, psr := 0, pcnt := 0, ext := extractStart }

/-- The frames the receive chain emits over a sequence of recovered-level bytes, from the state RX.END leaves: the fold
of `rx_step` (44 R160). -/
def receiveFrames (frameMax : Nat) (vs : List Byte) : List (List Byte) :=
  (run (fun x v => let r := rxStep frameMax x v; (r.unit, r.out.toList)) rxStart vs).2

end Sys2Proof.Safety
end

