-- ==== Sys2Proof/Certificates/Slice0/Obligations.lean ====
section
/-! DEFINITION. The statements for the provers. Each docstring cites the rules of spec/ it formalises. A command's word
is written out in its base-and-operand form of 30_encoding.md R63, R66; `raiseCmd k w s` is the error record of
60_exceptions.md R191, whose bits ErrorRecordBits states. -/

open Sys2Proof Sys2Proof.Machine Sys2Proof.Safety

/-! ### Encoding -/

/-- R61 to R63: decoding the word of a well-formed command gives the command back. -/
def Obligations.DecodeInvertsEncode : Prop := ∀ i : Instr, i.WellFormed → decode (encode i) = .ok i

/-- R61 to R64: a word that decodes to a command is that command's word, and the command is well-formed: no two words
stand for one command. -/
def Obligations.EncodeInvertsDecode : Prop :=
  ∀ (w : Word) (i : Instr), decode w = .ok i → i.WellFormed ∧ encode i = w

/-- R63, R64: the decoding procedure and the table of masks and matches say the same: a word decodes to a command
exactly when the row of that mnemonic selects it, no row selects a word that is refused, and a word selects at most one
row. -/
def Obligations.DecoderFollowsOpcodeTable : Prop :=
  (∀ (w : Word) (i : Instr), decode w = .ok i → ∃ r ∈ opcodeTable, r.mnemonic = i.mnemonic ∧ r.selects w = true) ∧
  (∀ (w : Word) (e : Reject), decode w = .error e → ∀ r ∈ opcodeTable, r.selects w = false) ∧
  (∀ (w : Word), ∀ r ∈ opcodeTable, ∀ r' ∈ opcodeTable, r.selects w = true → r'.selects w = true → r = r')

/-- A few words written out from the encoding of 30_encoding.md R63 decode to the command they stand for, and the
illegal words of 60_exceptions.md R192 to none. -/
def Obligations.WrittenWordsDecode : Prop :=
  decode 0x00000000 = .ok .nop ∧ decode 0x0300000F = .ok (.qFlush 15) ∧ decode 0x11000001 = .ok (.crcBit true) ∧
  decode 0x12000041 = .ok (.crcByte 0x41) ∧ decode 0x1A0000A5 = .ok (.pbByte 0xA5) ∧
  decode 0x21000000 = .ok (.stfBit false) ∧ decode 0x25000001 = .ok (.dsfBit true) ∧
  decode 0x350000FF = .ok (.nzdLvl 0xFF) ∧ decode 0x4500007E = .ok (.xtrByte 0x7E) ∧
  decode 0x53FFFFFF = .ok (.modTone 16777215) ∧ decode 0x62000000 = .ok .txBurst ∧ decode 0x69000000 = .ok .rxEnd ∧
  ∀ w ∈ [0xFFFFFFFF#32, 0x05000000#32, 0x46000000#32, 0x6A000000#32, 0x10000001#32, 0x11000002#32, 0x12000100#32,
    0x03000010#32], ∀ i, decode w ≠ .ok i

/-! ### One step -/

/-- 45 R171, 20 R46: when the host's next access writes a word to CMD that decodes to `i`, the step is exec of `i` on the
state in which that access is no longer pending and no value has been returned to the host; nothing else changes. That
the accesses stand in `bus` and a read's value in `readData` is the model's choice (log entries 1, 2). -/
def Obligations.StepRunsDecodedCommand : Prop :=
  ∀ (s : State) (w : Word) (rest : List Access) (i : Instr), s.bus = .write 0 w :: rest → decode w = .ok i →
    step s = exec i { s with bus := rest, readData := none }

/-- 30_encoding.md R64, 60 R192: writing an illegal word to CMD raises E_ILLCMD and changes no other state of the block.
That the access is then no longer pending in `bus` and no value stands in `readData` is the model's choice (log entries
1, 2). -/
def Obligations.IllegalWordOnlyRecorded : Prop :=
  ∀ (s : State) (w : Word) (rest : List Access) (e : Reject), s.bus = .write 0 w :: rest → decode w = .error e →
    step s = .next { s with bus := rest, readData := none, err := errAfter .illcmd s.err, errcmd := w }

/-- 45 R170, 70 R210, 92 D2: the other accesses. A read leaves the state of `reg_read` and returns its value, a write to
another register is `reg_write`, the reset input is the hardware reset, and with nothing pending nothing changes. The
fields `bus`, `readData`, `par` and `resets` are the model's own (log entries 1, 2, 3, 5, 10). -/
def Obligations.StepPerformsHostAccess : Prop :=
  ∀ (s : State) (rest : List Access),
    (∀ n, s.bus = .read n :: rest → step s =
      .next { (regRead n { s with bus := rest, readData := none }).1 with
        readData := some (regRead n { s with bus := rest, readData := none }).2 }) ∧
    (∀ n v, 0 < n → s.bus = .write n v :: rest → step s = regWrite n v { s with bus := rest, readData := none }) ∧
    (s.bus = .hardwareReset :: rest →
      step s = .next { State.resetWith s.par (s.resets + 1) with bus := rest }) ∧
    (s.bus = [] → step s = .next s)

/-- 20 R44, R46; 45 R171: every step completes, whatever the access; it takes exactly the first pending access and
leaves the constants of the instance alone. `bus` and `par` are the model's own fields (log entries 1, 3), and that no
access stops the machine is log entry 9. -/
def Obligations.EveryStepCompletes : Prop :=
  ∀ s : State, ∃ t, step s = .next t ∧ t.bus = s.bus.tail ∧ t.par = s.par

/-- The ranges 10_state.md gives every piece of state (R12, R13, R15 to R17, R30, R34, R36, R37) and 43 R137 (a): every
step keeps them. -/
def Obligations.StepKeepsInv : Prop := ∀ s t : State, Inv s → step s = .next t → Inv t

/-- The same ranges hold right after reset, of State.reset and of every instance that meets the constraints of
00_scope.md section 4. That State.reset is the instance of 95_test_vectors.md is the model's choice (log entry 3). -/
def Obligations.ResetMeetsInv : Prop :=
  Inv State.reset ∧ ∀ (p : Params) (n : Nat), p.wf = true → Inv (State.resetWith p n)

/-- 10_state.md R39, 70 R210: the values right after hardware reset, for every instance; COEF is unspecified (a free
value, log entry 4). -/
def Obligations.ResetValuesOfEveryRegister : Prop :=
  ∀ (p : Params) (n : Nat) (s : State), s = State.resetWith p n →
    s.crc = 0xFFFF ∧ s.scnt = 0 ∧ s.dcnt = 0 ∧ s.elvl = true ∧ s.dprv = true ∧ s.psr = 0 ∧ s.pcnt = 0 ∧
    s.xst = .searching ∧ s.xovl = false ∧ s.flen = 0 ∧ s.facc = [] ∧ s.dl.length = 2048 ∧ (∀ x ∈ s.dl, x = .zero) ∧
    s.acc = 0 ∧ s.preambleLen = 0 ∧ s.sps = 0 ∧ s.phinc = 0 ∧ s.wakeLen = 0 ∧ s.wakePhinc = 0 ∧ s.bufLen = 0 ∧
    s.fit = 0 ∧ s.caddr = 0 ∧ s.err = 0 ∧ s.errcmd = 0 ∧ s.pbuf = [] ∧ s.obq = [] ∧ s.oyq = [] ∧ s.ofq = [] ∧
    s.osq = [] ∧ s.frd = 0 ∧ (∀ k, coefAt s k = Config.coefPowerUp n k) ∧
    stCrcView s = 0x0000FFFF ∧ stCodecView s = 0x00000300 ∧ statusView s = 0

/-! ### Errors and events -/

/-- 60 R190, R191: what each error records, bit by bit: its own sticky flag and its code in LASTCODE, every other bit of
ERR kept; ERRCMD is the word for a command and unchanged for a register access; no other state changes. -/
def Obligations.ErrorRecordBits : Prop :=
  ∀ (k : ErrKind) (bit code : Nat),
    (k, bit, code) ∈ [(ErrKind.illcmd, 0, 1), (.cfg, 1, 2), (.pbfull, 2, 3), (.qfull, 3, 4), (.qempty, 4, 5),
      (.regacc, 5, 6)] →
    ∀ (w : Word) (s : State), ∃ e : Word,
      (∀ i < 32, e.getLsbD i = if 16 ≤ i ∧ i < 24 then code.testBit (i - 16) else (decide (i = bit) || s.err.getLsbD i)) ∧
      raiseCmd k w s = { s with err := e, errcmd := w } ∧ raiseAccess k s = { s with err := e }

/-- 10_state.md R30: a write of `v` to ERR clears flag bit i for every i in {0,1,2,3,4,5,8,9} with v[i] = 1 and changes
nothing else. -/
def Obligations.WritingOnesClearsErrFlags : Prop :=
  ∀ (s : State) (v : Word), ∃ e : Word, regWrite 2 v s = .next { s with err := e } ∧
    ∀ i < 32, e.getLsbD i = (s.err.getLsbD i && !(decide (i ∈ [0, 1, 2, 3, 4, 5, 8, 9]) && v.getLsbD i))

/-- 60 R191, R195, R198; 45 R171: a command other than SRST either raises one error and changes nothing but the error
record, with its own word in ERRCMD, or leaves ERRCMD alone and changes ERR at most by one event flag. -/
def Obligations.CommandRaisesOrCompletes : Prop :=
  ∀ (i : Instr) (s : State), i ≠ .srst → ∃ t, exec i s = .next t ∧
    ((∃ k, t = raiseCmd k (encode i) s) ∨
      (t.errcmd = s.errcmd ∧ (t.err = s.err ∨ t.err = s.err ||| 0x00000100 ∨ t.err = s.err ||| 0x00000200)))

/-- 10_state.md R19: no command reads a flag: from two states that differ only in ERR and ERRCMD a command leaves states
that differ only there. -/
def Obligations.CommandsNeverReadFlags : Prop :=
  ∀ (i : Instr) (s t : State) (e c : Word), exec i s = .next t →
    ∃ e' c', exec i { s with err := e, errcmd := c } = .next { t with err := e', errcmd := c' }

/-- 10_state.md section 5, R34, 45 R174: no command but SRST changes a configuration register or CADDR, and none writes
COEF. That no command changes the model's own fields (here `par` and `bus`, and for commands other than SRST also
`readData` and `resets`) is the model's choice (log entries 1, 2, 3, 5, 10). -/
def Obligations.CommandsKeepConfiguration : Prop :=
  ∀ (i : Instr) (s t : State), exec i s = .next t →
    (i ≠ .srst → SameSetup s t) ∧ t.coef = s.coef ∧ t.par = s.par ∧ t.bus = s.bus

/-- 10_state.md R36, R37: a command only appends to queues, but for FRQ.DROP, Q.FLUSH and SRST, and only PB.CLR, PB.BIT,
PB.BYTE and SRST change PBUF. -/
def Obligations.CommandsOnlyAppendToQueues : Prop :=
  ∀ (i : Instr) (s t : State), exec i s = .next t →
    (i ≠ .srst → i ≠ .frqDrop → (∀ m, i ≠ .qFlush m) →
      s.obq <+: t.obq ∧ s.oyq <+: t.oyq ∧ s.ofq <+: t.ofq ∧ s.osq <+: t.osq ∧ t.frd = s.frd) ∧
    (i ≠ .srst → i ≠ .pbClr → (∀ b, i ≠ .pbBit b) → (∀ v, i ≠ .pbByte v) → t.pbuf = s.pbuf)

/-- 70 R216 (e): the transmit units and the receive units share nothing: a command of the one side leaves the units of
the other alone. -/
def Obligations.TransmitAndReceiveShareNothing : Prop :=
  ∀ (i : Instr) (s t : State), exec i s = .next t →
    (isTransmit i = true → SameReceive s t) ∧ (isReceive i = true → SameTransmit s t)

/-! ### Clears, reset, queues -/

/-- 40 R82, 41 R91, R96, R100, 42 R112, R116, 43 R129, 44 R151, R155, 45 R172: the word of each clear (and of NOP), what
it writes, and what its view then reads; nothing else changes. -/
def Obligations.ClearsReturnTheirUnitOnly : Prop :=
  ∀ s : State,
    (decode 0x00000000 = .ok .nop ∧ exec .nop s = .next s) ∧
    (decode 0x10000000 = .ok .crcClr ∧ ∃ t, exec .crcClr s = .next t ∧ t = { s with crc := 0xFFFF } ∧
      (regRead 13 t).2 = 0x0000FFFF) ∧
    (decode 0x18000000 = .ok .pbClr ∧ ∃ t, exec .pbClr s = .next t ∧ t = { s with pbuf := [] } ∧
      (regRead 18 t).2 = 0 ∧ (regRead 1 t).2.getLsbD 4 = false) ∧
    (decode 0x20000000 = .ok .stfClr ∧ ∃ t, exec .stfClr s = .next t ∧ t = { s with scnt := 0 } ∧
      (regRead 14 t).2.extractLsb' 0 3 = 0) ∧
    (decode 0x24000000 = .ok .dsfClr ∧ ∃ t, exec .dsfClr s = .next t ∧ t = { s with dcnt := 0 } ∧
      (regRead 14 t).2.extractLsb' 4 3 = 0) ∧
    (decode 0x30000000 = .ok .nzeClr ∧ ∃ t, exec .nzeClr s = .next t ∧ t = { s with elvl := true } ∧
      (regRead 14 t).2.getLsbD 8 = true) ∧
    (decode 0x34000000 = .ok .nzdClr ∧ ∃ t, exec .nzdClr s = .next t ∧ t = { s with dprv := true } ∧
      (regRead 14 t).2.getLsbD 9 = true) ∧
    (decode 0x40000000 = .ok .pckClr ∧ ∃ t, exec .pckClr s = .next t ∧ t = { s with psr := 0, pcnt := 0 } ∧
      (regRead 14 t).2.extractLsb' 16 8 = 0 ∧ (regRead 14 t).2.extractLsb' 12 3 = 0) ∧
    (decode 0x44000000 = .ok .xtrClr ∧
      exec .xtrClr s = .next { s with xst := .searching, facc := [], flen := 0, xovl := false }) ∧
    (decode 0x50000000 = .ok .modClr ∧ ∃ t, exec .modClr s = .next t ∧
      t = { s with dl := List.replicate 2048 .zero, acc := 0 } ∧ (regRead 16 t).2 = 0 ∧ (regRead 17 t).2 = 0)

/-- 45 R174, 44 R162: CLR.ALL is the effect of the eight unit clears together, RX.END that of NZD.CLR, DSF.CLR, PCK.CLR
and XTR.CLR; their words, what each leaves, and that doing it twice is doing it once. -/
def Obligations.ClrAllAndRxEndAreTheirClears : Prop :=
  decode 0x02000000 = .ok .clrAll ∧ decode 0x69000000 = .ok .rxEnd ∧
  ∀ s : State,
    (∃ t, exec .clrAll s = .next t ∧
      runCommands [.crcClr, .stfClr, .dsfClr, .nzeClr, .nzdClr, .pckClr, .xtrClr, .modClr] s = .next t ∧
      exec .clrAll t = .next t ∧
      t = { s with
        crc := 0xFFFF, scnt := 0, dcnt := 0, elvl := true, dprv := true, psr := 0, pcnt := 0, xst := .searching,
        facc := [], flen := 0, xovl := false, dl := List.replicate 2048 .zero, acc := 0 }) ∧
    (∃ t, exec .rxEnd s = .next t ∧ runCommands [.nzdClr, .dsfClr, .pckClr, .xtrClr] s = .next t ∧
      exec .rxEnd t = .next t ∧
      t = { s with
        dprv := true, dcnt := 0, psr := 0, pcnt := 0, xst := .searching, facc := [], flen := 0, xovl := false })

/-- 45 R173, 70 R211: SRST gives every piece of state its reset value except COEF, which keeps its contents; the model's
own fields stay (log entry 10). -/
def Obligations.SrstRestoresAllButCoef : Prop :=
  decode 0x01000000 = .ok .srst ∧ ∀ s : State, ∃ t, exec .srst s = .next t ∧
    t = { State.resetWith s.par s.resets with coef := s.coef, bus := s.bus, readData := s.readData } ∧
    (∀ k, coefAt t k = coefAt s k) ∧ (regRead 1 t).2 = 0 ∧ (regRead 2 t).2 = 0 ∧ (regRead 13 t).2 = 0x0000FFFF ∧
    (regRead 14 t).2 = 0x00000300

/-- 45 R175: Q.FLUSH m empties exactly the selected queues (and clears FRD with OFQ). -/
def Obligations.FlushEmptiesSelectedQueues : Prop :=
  ∀ (m : BitVec 4) (s : State), ∃ t, exec (.qFlush m) s = .next t ∧
    decode (0x03000000#32 ||| m.setWidth 32) = .ok (.qFlush m) ∧
    (m.getLsbD 0 = true → t.obq = []) ∧ (m.getLsbD 0 = false → t.obq = s.obq) ∧
    (m.getLsbD 1 = true → t.oyq = []) ∧ (m.getLsbD 1 = false → t.oyq = s.oyq) ∧
    (m.getLsbD 2 = true → t.ofq = [] ∧ t.frd = 0) ∧ (m.getLsbD 2 = false → t.ofq = s.ofq ∧ t.frd = s.frd) ∧
    (m.getLsbD 3 = true → t.osq = []) ∧ (m.getLsbD 3 = false → t.osq = s.osq) ∧
    t = { s with obq := t.obq, oyq := t.oyq, ofq := t.ofq, osq := t.osq, frd := t.frd }

/-- 45 R176: FRQ.DROP removes the head record, read or not, or raises E_QEMPTY. -/
def Obligations.DropRemovesHeadFrame : Prop :=
  decode 0x04000000 = .ok .frqDrop ∧
  ∀ s : State,
    (∀ r rest, s.ofq = r :: rest → exec .frqDrop s = .next { s with ofq := rest, frd := 0 }) ∧
    (s.ofq = [] → exec .frqDrop s = .next (raiseCmd .qempty 0x04000000 s))

/-! ### CRC -/

/-- 40 R80, R83: CRC.BIT divides by x^16 + x^12 + x^5 + 1: bit i of the new register is bit i − 1 of the old one, with the
feedback bit (old bit 15 xor b) added at the three positions of 0x1021; nothing else changes. -/
def Obligations.CrcBitDividesByPolynomial : Prop :=
  ∀ (b : Bool) (s : State), decode (0x11000000#32 ||| (BitVec.ofBool b).setWidth 32) = .ok (.crcBit b) ∧
    ∃ c : BitVec 16, exec (.crcBit b) s = .next { s with crc := c } ∧
      ∀ i < 16, c.getLsbD i =
        ((decide (0 < i) && s.crc.getLsbD (i - 1)) ^^ (decide (i ∈ [0, 5, 12]) && (s.crc.getLsbD 15 ^^ b)))

/-- 40 R84: CRC.BYTE v equals eight CRC.BIT, v[7] first and v[0] last; only CRC changes. -/
def Obligations.CrcByteIsEightBits : Prop :=
  ∀ (v : Byte) (s : State), decode (0x12000000#32 ||| v.setWidth 32) = .ok (.crcByte v) ∧
    ∃ c : BitVec 16, exec (.crcByte v) s = .next { s with crc := c } ∧
      runCommands ([7, 6, 5, 4, 3, 2, 1, 0].map (fun j => .crcBit (v.getLsbD j))) s = .next { s with crc := c }

/-- 40 R85: CRC.EMIT pushes the 16 bits of not_16(CRC), bit 15 first, or raises E_QFULL when OBQ cannot take 16; CRC is
not changed. -/
def Obligations.CrcEmitPushesComplement : Prop :=
  decode 0x13000000 = .ok .crcEmit ∧
  ∀ s : State,
    (room s.par.obqDepth s.obq.length 16 = true →
      exec .crcEmit s = .next { s with obq := s.obq ++ (List.range 16).map (fun j => !s.crc.getLsbD (15 - j)) }) ∧
    (room s.par.obqDepth s.obq.length 16 = false → exec .crcEmit s = .next (raiseCmd .qfull 0x13000000 s))

/-- 40 R86: (a) the residue is 0x1D0F for every message followed by its checksum; (b) the step is linear; (c) CRC.BYTE is
eight CRC.BIT; (d) CRC.CLR, the message and its checksum leave ST_CRC = 0xE2F01D0F. The residue test agrees with
`verify` on every frame it is applied to. -/
def Obligations.CrcResidueAndLinearity : Prop :=
  (∀ p : Bits, crcRun 0xFFFF (p ++ checksum16 p) = 0x1D0F) ∧
  (∀ fr : List Byte, 3 ≤ fr.length → (verifyOk fr = true ↔ crcRun 0xFFFF (bitsOfBytes fr) = 0x1D0F)) ∧
  (∀ (r1 r2 : BitVec 16) (b1 b2 : Bool), crcStep (r1 ^^^ r2) (b1 ^^ b2) = crcStep r1 b1 ^^^ crcStep r2 b2) ∧
  (∀ (v : Byte) (s : State),
    exec (.crcByte v) s = runCommands ([7, 6, 5, 4, 3, 2, 1, 0].map (fun j => .crcBit (v.getLsbD j))) s) ∧
  (∀ (p : Bits) (s : State), ∃ t, runCommands (.crcClr :: (p ++ checksum16 p).map .crcBit) s = .next t ∧
    (regRead 13 t).2 = 0xE2F01D0F)

/-- 44 R158: `verify` splits off the last two bytes and accepts exactly the frames in which they are the checksum of the
bytes before them, high byte first, each byte most significant bit first; testing the residue is the same test. -/
def Obligations.VerifyComparesLastTwoBytes : Prop :=
  ∀ (pay : List Byte) (hi lo : Byte), pay ≠ [] →
    (verify (pay ++ [hi, lo])).1 = pay ∧
    ((verify (pay ++ [hi, lo])).2 = true ↔
      checksum16 (pay.flatMap (fun v => [7, 6, 5, 4, 3, 2, 1, 0].map (fun j => v.getLsbD j))) =
        [hi, lo].flatMap (fun v => [7, 6, 5, 4, 3, 2, 1, 0].map (fun j => v.getLsbD j))) ∧
    ((verify (pay ++ [hi, lo])).2 = true ↔ crcRun 0xFFFF (bitsOfBytes (pay ++ [hi, lo])) = 0x1D0F)

/-! ### Payload buffer, stuffer, destuffer, framer -/

/-- 41 R92, R93: PB.BIT and PB.BYTE append their bits, a byte's bit 7 first, or raise E_PBFULL and append none. -/
def Obligations.PayloadAppendsOrRefuses : Prop :=
  ∀ s : State,
    (∀ b : Bool, decode (0x19000000#32 ||| (BitVec.ofBool b).setWidth 32) = .ok (.pbBit b) ∧
      (s.pbuf.length + 1 ≤ s.par.pbufMax → exec (.pbBit b) s = .next { s with pbuf := s.pbuf ++ [b] }) ∧
      (s.par.pbufMax < s.pbuf.length + 1 →
        exec (.pbBit b) s = .next (raiseCmd .pbfull (0x19000000#32 ||| (BitVec.ofBool b).setWidth 32) s))) ∧
    (∀ v : Byte, decode (0x1A000000#32 ||| v.setWidth 32) = .ok (.pbByte v) ∧
      (s.pbuf.length + 8 ≤ s.par.pbufMax →
        exec (.pbByte v) s = .next { s with pbuf := s.pbuf ++ [7, 6, 5, 4, 3, 2, 1, 0].map (fun j => v.getLsbD j) }) ∧
      (s.par.pbufMax < s.pbuf.length + 8 →
        exec (.pbByte v) s = .next (raiseCmd .pbfull (0x1A000000#32 ||| v.setWidth 32) s)))

/-- 41 R94, R97: STF.BIT: a 0 is copied and resets the count; a 1 is copied and counted; the fifth 1 in a row is copied
and followed by an inserted 0; E_QFULL when the output does not fit. -/
def Obligations.StfBitStuffs : Prop :=
  (∀ b : Bool, decode (0x21000000#32 ||| (BitVec.ofBool b).setWidth 32) = .ok (.stfBit b)) ∧
  ∀ s : State, s.scnt.toNat ≤ 4 →
    (room s.par.obqDepth s.obq.length 1 = true →
      exec (.stfBit false) s = .next { s with scnt := 0, obq := s.obq ++ [false] } ∧
      (s.scnt.toNat < 4 → exec (.stfBit true) s = .next { s with scnt := s.scnt + 1, obq := s.obq ++ [true] })) ∧
    (room s.par.obqDepth s.obq.length 2 = true → s.scnt.toNat = 4 →
      exec (.stfBit true) s = .next { s with scnt := 0, obq := s.obq ++ [true, false] }) ∧
    (room s.par.obqDepth s.obq.length 1 = false →
      exec (.stfBit false) s = .next (raiseCmd .qfull 0x21000000 s) ∧
      (s.scnt.toNat < 4 → exec (.stfBit true) s = .next (raiseCmd .qfull 0x21000001 s))) ∧
    (room s.par.obqDepth s.obq.length 2 = false → s.scnt.toNat = 4 →
      exec (.stfBit true) s = .next (raiseCmd .qfull 0x21000001 s))

/-- 41 R95: (a) a stuffed sequence has no six 1-bits in a row; (b) at most one insertion for five input bits; (c) it
contains no FLAG, and none straddles its end and a following FLAG; (d) the empty input gives the empty output. -/
def Obligations.StuffedSequenceHidesFlag : Prop :=
  (∀ bits : Bits, ¬ (List.replicate 6 true <:+: stuff bits)) ∧
  (∀ bits : Bits, ∃ k ≤ bits.length / 5, (stuff bits).length = bits.length + k) ∧
  (∀ bits : Bits, ¬ (flagBits <:+: stuff bits) ∧
    ∀ before after, stuff bits ++ flagBits = before ++ flagBits ++ after → after = []) ∧
  stuff [] = []

/-- 41 R98, R101: DSF.BIT: the 0 after five 1-bits is consumed and nothing is pushed; a 1 there opens a run that is
copied until a 0 ends it; elsewhere the bit is copied and 1-bits are counted; E_QFULL when a bit does not fit. -/
def Obligations.DsfBitDestuffs : Prop :=
  (∀ b : Bool, decode (0x25000000#32 ||| (BitVec.ofBool b).setWidth 32) = .ok (.dsfBit b)) ∧
  ∀ s : State, s.dcnt.toNat ≤ 6 →
    (s.dcnt.toNat = 5 → exec (.dsfBit false) s = .next { s with dcnt := 0 }) ∧
    (room s.par.obqDepth s.obq.length 1 = true →
      (s.dcnt.toNat ≠ 5 → exec (.dsfBit false) s = .next { s with dcnt := 0, obq := s.obq ++ [false] }) ∧
      (s.dcnt.toNat < 5 → exec (.dsfBit true) s = .next { s with dcnt := s.dcnt + 1, obq := s.obq ++ [true] }) ∧
      (5 ≤ s.dcnt.toNat → exec (.dsfBit true) s = .next { s with dcnt := 6, obq := s.obq ++ [true] })) ∧
    (room s.par.obqDepth s.obq.length 1 = false →
      (s.dcnt.toNat ≠ 5 → exec (.dsfBit false) s = .next (raiseCmd .qfull 0x25000000 s)) ∧
      exec (.dsfBit true) s = .next (raiseCmd .qfull 0x25000001 s))

/-- 41 R99: (a) destuffing undoes stuffing; (b) a FLAG passes unchanged and leaves the count at 0; (c) of a frame only
the body is destuffed, if the preamble has no five 1-bits in a row; (d) a run of seven or more 1-bits passes unchanged. -/
def Obligations.DestuffUndoesStuff : Prop :=
  (∀ x : Bits, destuff (stuff x) = x) ∧
  run destuffStep 0 flagBits = (0, flagBits) ∧
  (∀ pre x : Bits, ¬ (List.replicate 5 true <:+: pre) →
    destuff (pre ++ flagBits ++ stuff x ++ flagBits) = pre ++ flagBits ++ x ++ flagBits) ∧
  (∀ n ≥ 7, run destuffStep 0 (List.replicate n true ++ [false]) = (0, List.replicate n true ++ [false]))

/-- 41 R102 to R104: TX.FRAME pushes preamble, FLAG, stuffed payload and checksum, FLAG, and leaves CRC and SCNT at the
end of their runs; PBUF is unchanged; E_QFULL when the frame does not fit. The preamble alternates from 0, and the
frame's length is the sum of its parts and the insertions. -/
def Obligations.TxFramePushesFrame : Prop :=
  decode 0x60000000 = .ok .txFrame ∧
  (∀ n, (preamble n).length = n ∧ ∀ j < n, (preamble n)[j]? = some (decide (j % 2 = 1))) ∧
  (∀ (p : Bits) (n : Nat), frame p n = preamble n ++ flagBits ++ stuff (p ++ checksum16 p) ++ flagBits ∧
    ∃ k ≤ (p.length + 16) / 5, (frame p n).length = n + 16 + p.length + 16 + k) ∧
  ∀ s : State,
    (room s.par.obqDepth s.obq.length (frame s.pbuf s.preambleLen.toNat).length = true →
      exec .txFrame s = .next { s with
        crc := crcRun 0xFFFF s.pbuf, scnt := (run stuffStep 0 (s.pbuf ++ checksum16 s.pbuf)).1,
        obq := s.obq ++ frame s.pbuf s.preambleLen.toNat }) ∧
    (room s.par.obqDepth s.obq.length (frame s.pbuf s.preambleLen.toNat).length = false →
      exec .txFrame s = .next (raiseCmd .qfull 0x60000000 s))

/-! ### NRZI -/

/-- 42 R110, R111, R113: NZE.BIT pushes the level after the toggle, level xor b xor 1; `nrzi_encode` puts out as many
levels as bits, level i being 1 xor the parity of the 0-bits up to bit i. -/
def Obligations.NzeBitTogglesOnZero : Prop :=
  (∀ (b : Bool) (s : State), decode (0x31000000#32 ||| (BitVec.ofBool b).setWidth 32) = .ok (.nzeBit b) ∧
    (room s.par.obqDepth s.obq.length 1 = true →
      exec (.nzeBit b) s = .next { s with elvl := s.elvl ^^ b ^^ true, obq := s.obq ++ [s.elvl ^^ b ^^ true] }) ∧
    (room s.par.obqDepth s.obq.length 1 = false →
      exec (.nzeBit b) s = .next (raiseCmd .qfull (0x31000000#32 ||| (BitVec.ofBool b).setWidth 32) s))) ∧
  (∀ bits : Bits, (nrziEncode bits).length = bits.length ∧
    ∀ j < bits.length, (nrziEncode bits)[j]? = some (decide ((bits.take (j + 1)).count false % 2 = 0)))

/-- 42 R114, R117: NZD.LVL takes any nonzero byte as level 1 and pushes 1 iff the level is the previous one. -/
def Obligations.NzdLvlComparesLevels : Prop :=
  ∀ (v : Byte) (s : State), decode (0x35000000#32 ||| v.setWidth 32) = .ok (.nzdLvl v) ∧
    (room s.par.obqDepth s.obq.length 1 = true →
      exec (.nzdLvl v) s = .next { s with
        dprv := decide (0 < v.toNat), obq := s.obq ++ [decide (s.dprv = decide (0 < v.toNat))] }) ∧
    (room s.par.obqDepth s.obq.length 1 = false →
      exec (.nzdLvl v) s = .next (raiseCmd .qfull (0x35000000#32 ||| v.setWidth 32) s))

/-- 42 R115: (a) decoding undoes encoding; (b) a wrong previous level, or a start in mid-stream, can spoil only the first
output bit; (c) inverting every level inverts only the first output bit. -/
def Obligations.NrziDecodeUndoesEncode : Prop :=
  (∀ b : Bits, nrziDecode (nrziEncode b) = b) ∧
  (∀ (p : Bool) (before levels : Bits),
    (run nrziDecStep p levels).2.tail = ((nrziDecode (before ++ levels)).drop before.length).tail) ∧
  (∀ levels : Bits, (nrziDecode (levels.map (!·))).tail = (nrziDecode levels).tail ∧
    (nrziDecode (levels.map (!·))).head? = (nrziDecode levels).head?.map (!·))

/-- 42 R118: TX.LEVELS pushes the NRZI levels of the whole frame and leaves CRC, SCNT and ELVL (the last level) at the end
of their runs; as many levels as frame bits; E_QFULL when they do not fit. -/
def Obligations.TxLevelsPushesNrziFrame : Prop :=
  decode 0x61000000 = .ok .txLevels ∧
  ∀ (s : State) (levels : Bits), levels = nrziEncode (frame s.pbuf s.preambleLen.toNat) →
    levels.length = (frame s.pbuf s.preambleLen.toNat).length ∧
    (room s.par.obqDepth s.obq.length levels.length = true →
      exec .txLevels s = .next { s with
        crc := crcRun 0xFFFF s.pbuf, scnt := (run stuffStep 0 (s.pbuf ++ checksum16 s.pbuf)).1,
        elvl := levels.getLastD true, obq := s.obq ++ levels }) ∧
    (room s.par.obqDepth s.obq.length levels.length = false →
      exec .txLevels s = .next (raiseCmd .qfull 0x61000000 s))

/-! ### Modulator -/

/-- 43 R124 to R126, R128, R130, R131: MOD.SYM pushes SPS samples of the symbol of its level, MOD.FLUSH 8·SPS samples of
nothing. Sample j is the table entry at the phase ACC + PHINC · (F_0 + ... + F_j) mod 2^56, F_j the sum over the taps in
use of COEF[k] times the input of k samples before; the delay line shifts by that many inputs. -/
def Obligations.ModSymAndFlushConvolve : Prop :=
  ∀ (s : State) (i : Instr) (u : Tap) (n : Nat),
    ((i = .modSym true ∧ u = .pos ∧ n = s.sps.toNat) ∨ (i = .modSym false ∧ u = .neg ∧ n = s.sps.toNat) ∨
      (i = .modFlush ∧ u = .zero ∧ n = 8 * s.sps.toNat)) →
    1 ≤ s.sps.toNat → s.sps.toNat ≤ 256 → s.dl.length = 2048 → room s.par.osqDepth s.osq.length n = true →
    ∃ out : List Sample, out.length = n ∧ (∀ j < n, out[j]? = some (tableAt s (phaseAfter s u j))) ∧
      exec i s = .next { s with
        dl := (List.replicate n u ++ s.dl).take 2048, acc := phaseAfter s u (n - 1), osq := s.osq ++ out }

/-- 43 R130, R131, R136; 60 R193, R200: the errors of the modulator commands in their order: a ratio outside 1 to 256
(and, for TX.BURST, FIT = 3 or an empty buffer to fit) is E_CFG whatever the queue holds; then a full OSQ is E_QFULL. -/
def Obligations.ModulatorErrorsInOrder : Prop :=
  ∀ s : State,
    ((s.sps.toNat = 0 ∨ 256 < s.sps.toNat) →
      exec (.modSym false) s = .next (raiseCmd .cfg 0x51000000 s) ∧
      exec (.modSym true) s = .next (raiseCmd .cfg 0x51000001 s) ∧
      exec .modFlush s = .next (raiseCmd .cfg 0x52000000 s) ∧
      exec .txBurst s = .next (raiseCmd .cfg 0x62000000 s)) ∧
    (s.fit.toNat = 3 ∨ (s.fit.toNat ≠ 0 ∧ s.bufLen.toNat = 0) →
      exec .txBurst s = .next (raiseCmd .cfg 0x62000000 s)) ∧
    (1 ≤ s.sps.toNat → s.sps.toNat ≤ 256 →
      (room s.par.osqDepth s.osq.length s.sps.toNat = false →
        exec (.modSym false) s = .next (raiseCmd .qfull 0x51000000 s) ∧
        exec (.modSym true) s = .next (raiseCmd .qfull 0x51000001 s)) ∧
      (room s.par.osqDepth s.osq.length (8 * s.sps.toNat) = false →
        exec .modFlush s = .next (raiseCmd .qfull 0x52000000 s)))

/-- 43 R131: after MOD.FLUSH the first 8·SPS entries of the delay line are 0 and the phase stands still: a second
MOD.FLUSH pushes 8·SPS copies of one sample. -/
def Obligations.FlushSettlesTheFilter : Prop :=
  ∀ s : State, 1 ≤ s.sps.toNat → s.sps.toNat ≤ 256 → s.dl.length = 2048 →
    room s.par.osqDepth s.osq.length (16 * s.sps.toNat) = true →
    ∃ t u, exec .modFlush s = .next t ∧ exec .modFlush t = .next u ∧
      t.dl.take (8 * s.sps.toNat) = List.replicate (8 * s.sps.toNat) .zero ∧
      t.osq.length = s.osq.length + 8 * s.sps.toNat ∧ u.acc = t.acc ∧
      u.osq = t.osq ++ List.replicate (8 * s.sps.toNat) (tableAt s t.acc)

/-- 43 R132, R133: MOD.TONE n pushes n samples a constant phase step apart, sext_32(WAKE_PHINC) · 2^24 each, and leaves
ACC at the last; DL is not touched. MOD.SIL n pushes n silent samples. E_QFULL when they do not fit. -/
def Obligations.ToneAndSilence : Prop :=
  ∀ (s : State) (n : Nat), n < 2 ^ 24 →
    decode (0x53000000#32 ||| BitVec.ofNat 32 n) = .ok (.modTone n) ∧
    decode (0x54000000#32 ||| BitVec.ofNat 32 n) = .ok (.modSil n) ∧
    (room s.par.osqDepth s.osq.length n = true →
      (∃ out : List Sample, out.length = n ∧
        (∀ j < n, out[j]? =
          some (tableAt s (s.acc + BitVec.ofInt 56 (((j : Int) + 1) * (s.wakePhinc.toInt * 2 ^ 24))))) ∧
        exec (.modTone n) s = .next { s with
          acc := s.acc + BitVec.ofInt 56 ((n : Int) * (s.wakePhinc.toInt * 2 ^ 24)), osq := s.osq ++ out }) ∧
      exec (.modSil n) s = .next { s with osq := s.osq ++ List.replicate n ⟨0, 0⟩ }) ∧
    (0 < n → room s.par.osqDepth s.osq.length n = false →
      exec (.modTone n) s = .next (raiseCmd .qfull (0x53000000#32 ||| BitVec.ofNat 32 n) s) ∧
      exec (.modSil n) s = .next (raiseCmd .qfull (0x54000000#32 ||| BitVec.ofNat 32 n) s))

/-- 43 R134, R137 (c): a burst has WAKE_LEN + SPS · len(L) + 8·SPS samples, and the phase it ends on is fixed by the
tone, the sum of the coefficients in use and the number of 1 levels less the number of 0 levels alone. -/
def Obligations.BurstEndsOnNetPhase : Prop :=
  ∀ (s : State) (levels : Bits), 1 ≤ s.sps.toNat → s.sps.toNat ≤ 256 →
    (burst s levels).2.length = s.wakeLen.toNat + s.sps.toNat * levels.length + 8 * s.sps.toNat ∧
    (burst s levels).1.acc = BitVec.ofInt 56
      ((s.wakeLen.toNat : Int) * s.wakePhinc.toInt * 2 ^ 24 +
        (s.phinc.toNat : Int) * (∑ k ∈ Finset.range (8 * s.sps.toNat + 1), ((coefAt s k).toNat : Int)) *
          s.sps.toNat * ((levels.count true : Int) - levels.count false))

/-- 43 R135: `fit`. With FIT = 0 the burst as it is; with 1 or 2 exactly BUF_LEN samples: the burst (once, or as many
whole copies as fit) and then silence, or its first BUF_LEN samples, reported as cut, when one copy is too long. -/
def Obligations.FitMatchesBufferLength : Prop :=
  ∀ (b : List Sample) (n : Nat), b ≠ [] →
    fitBurst 0 n b = (b, false) ∧
    (∀ f : BitVec 2, f = 1 ∨ f = 2 → (fitBurst f n b).1.length = n ∧
      ((fitBurst f n b).2 = true ↔ n < b.length) ∧ (n < b.length → (fitBurst f n b).1 = b.take n)) ∧
    (b.length ≤ n → ∀ j < n,
      (fitBurst 1 n b).1[j]? = (if j < b.length then b[j]? else some ⟨0, 0⟩) ∧
      (fitBurst 2 n b).1[j]? = (if j < n / b.length * b.length then b[j % b.length]? else some ⟨0, 0⟩))

/-- 43 R136: TX.BURST from fresh units: the frame's levels modulated after the wake tone, fitted to the buffer, pushed to
OSQ; CRC, SCNT, ELVL, DL and ACC left at the end of their runs; TRUNC set when the burst was cut; E_QFULL when the
fitted burst does not fit. -/
def Obligations.TxBurstPushesFittedBurst : Prop :=
  decode 0x62000000 = .ok .txBurst ∧
  ∀ (s : State) (levels : Bits) (o : List Sample × Bool), 1 ≤ s.sps.toNat → s.sps.toNat ≤ 256 → s.fit.toNat ≠ 3 →
    (s.fit.toNat = 0 ∨ 0 < s.bufLen.toNat) → levels = nrziEncode (frame s.pbuf s.preambleLen.toNat) →
    o = fitBurst s.fit s.bufLen.toNat (burst s levels).2 →
    (room s.par.osqDepth s.osq.length o.1.length = true →
      exec .txBurst s = .next { s with
        crc := crcRun 0xFFFF s.pbuf, scnt := (run stuffStep 0 (s.pbuf ++ checksum16 s.pbuf)).1,
        elvl := levels.getLastD true, dl := (burst s levels).1.dl, acc := (burst s levels).1.acc,
        osq := s.osq ++ o.1, err := if o.2 then s.err ||| 0x00000100 else s.err }) ∧
    (room s.par.osqDepth s.osq.length o.1.length = false →
      exec .txBurst s = .next (raiseCmd .qfull 0x62000000 s))

/-- 43 R134, R136, 95_test_vectors.md P4 note (d): the burst is what the primitive commands give one after the other:
MOD.CLR, MOD.TONE WAKE_LEN, MOD.SYM for each level, MOD.FLUSH push its samples in that order, leave its DL and ACC, and
change nothing else; DL is then 0 in its first 8·SPS entries. With FIT = 0, TX.BURST leaves the same OSQ, DL and ACC and
sets no event. SPS is legal and OSQ has room for the whole burst, so no command is refused. -/
def Obligations.BurstIsItsPrimitiveCommands : Prop :=
  ∀ (s : State) (levels : Bits), 1 ≤ s.sps.toNat → s.sps.toNat ≤ 256 →
    room s.par.osqDepth s.osq.length (s.wakeLen.toNat + s.sps.toNat * levels.length + 8 * s.sps.toNat) = true →
    ∃ t, runCommands ([.modClr, .modTone s.wakeLen.toNat] ++ levels.map .modSym ++ [.modFlush]) s = .next t ∧
      t = { s with
        dl := (burst s levels).1.dl, acc := (burst s levels).1.acc, osq := s.osq ++ (burst s levels).2 } ∧
      t.dl.length = 2048 ∧ t.dl.take (8 * s.sps.toNat) = List.replicate (8 * s.sps.toNat) .zero ∧
      (s.fit = 0 → levels = nrziEncode (frame s.pbuf s.preambleLen.toNat) →
        ∃ u, exec .txBurst s = .next u ∧ u.osq = t.osq ∧ u.dl = t.dl ∧ u.acc = t.acc ∧ u.err = s.err)

/-- 41 R104, 42 R118, 43 R136, R137 (d): what a transmit pipeline command pushes, and the unit registers it leaves, are a
function of PBUF, the configuration, the coefficients and LUT alone: two states that agree on these and in which the
command is not refused (it pushed something) push the same, whatever else they held. -/
def Obligations.TransmitOutputDependsOnInputsOnly : Prop :=
  ∀ (i : Instr) (s s' t t' : State), i = .txFrame ∨ i = .txLevels ∨ i = .txBurst → SameInputs s s' →
    exec i s = .next t → exec i s' = .next t' → (t.obq ≠ s.obq ∨ t.osq ≠ s.osq) → (t'.obq ≠ s'.obq ∨ t'.osq ≠ s'.osq) →
    ∃ (bits : Bits) (samples : List Sample),
      t.obq = s.obq ++ bits ∧ t'.obq = s'.obq ++ bits ∧ t.osq = s.osq ++ samples ∧ t'.osq = s'.osq ++ samples ∧
      t.crc = t'.crc ∧ t.scnt = t'.scnt ∧ (i ≠ .txFrame → t.elvl = t'.elvl) ∧
      (i = .txBurst → t.dl = t'.dl ∧ t.acc = t'.acc)

/-- 43 R127, R137 (a): in every state that meets the ranges, no sample exceeds AMP in either component, and every sample
that is not silent has magnitude AMP within the tolerance of LUT-MAG. -/
def Obligations.SamplesNeverClip : Prop :=
  ∀ s : State, Inv s → ∀ x ∈ s.osq,
    x.i.toInt.natAbs ≤ s.par.amp ∧ x.q.toInt.natAbs ≤ s.par.amp ∧
    (x ≠ ⟨0, 0⟩ → (x.i.toInt ^ 2 + x.q.toInt ^ 2 - (s.par.amp : Int) ^ 2).natAbs ≤ 2 * s.par.amp)

/-! ### Packer, extractor, receive chain -/

/-- 44 R150, R152: PCK.BIT shifts the bit in at the low end; the eighth completes a byte, which is pushed whole, or
E_QFULL. `pack` gives the bytes whose bits it is fed, most significant first, and drops up to seven bits left over. -/
def Obligations.PckBitPacksBytes : Prop :=
  (∀ (b : Bool) (s : State), decode (0x41000000#32 ||| (BitVec.ofBool b).setWidth 32) = .ok (.pckBit b) ∧
    (s.pcnt.toNat < 7 → exec (.pckBit b) s = .next { s with
      psr := (s.psr <<< 1) ||| (BitVec.ofBool b).setWidth 8, pcnt := s.pcnt + 1 }) ∧
    (s.pcnt.toNat = 7 → room s.par.oyqDepth s.oyq.length 1 = true → exec (.pckBit b) s = .next { s with
      psr := 0, pcnt := 0, oyq := s.oyq ++ [(s.psr <<< 1) ||| (BitVec.ofBool b).setWidth 8] }) ∧
    (s.pcnt.toNat = 7 → room s.par.oyqDepth s.oyq.length 1 = false →
      exec (.pckBit b) s = .next (raiseCmd .qfull (0x41000000#32 ||| (BitVec.ofBool b).setWidth 32) s))) ∧
  (∀ (bytes : List Byte) (rest : Bits), rest.length < 8 →
    pack (bytes.flatMap (fun v => [7, 6, 5, 4, 3, 2, 1, 0].map (fun j => v.getLsbD j)) ++ rest) = bytes)

/-- 44 R153, R156: XTR.BYTE. Before the first flag a byte is ignored; in a frame it is accumulated, or marks the frame
overlong when FRAME_MAX is reached; a flag closes the open frame (emitted with its `ok` if longer than 2 bytes, dropped
silently if not, dropped with FOVF if overlong) and opens the next; E_QFULL when a frame is due and OFQ is full. -/
def Obligations.XtrByteExtracts : Prop :=
  (∀ v : Byte, decode (0x45000000#32 ||| v.setWidth 32) = .ok (.xtrByte v)) ∧
  ∀ (s : State) (v : Byte),
    (v ≠ 0x7E → s.xst = .searching →
      exec (.xtrByte v) s = .next { s with facc := [], flen := 0, xovl := false }) ∧
    (v ≠ 0x7E → s.xst = .inFrame → s.facc.length < s.par.frameMax →
      exec (.xtrByte v) s = .next { s with facc := s.facc ++ [v], flen := BitVec.ofNat 16 (s.facc.length + 1) }) ∧
    (v ≠ 0x7E → s.xst = .inFrame → s.par.frameMax ≤ s.facc.length →
      exec (.xtrByte v) s = .next { s with flen := BitVec.ofNat 16 s.facc.length, xovl := true }) ∧
    (s.xst = .searching ∨ (s.xovl = false ∧ s.facc.length ≤ 2) →
      exec (.xtrByte 0x7E) s = .next { s with xst := .inFrame, facc := [], flen := 0, xovl := false }) ∧
    (s.xst = .inFrame → s.xovl = true →
      exec (.xtrByte 0x7E) s = .next { s with
        xst := .inFrame, facc := [], flen := 0, xovl := false, err := s.err ||| 0x00000200 }) ∧
    (s.xst = .inFrame → s.xovl = false → 2 < s.facc.length →
      (room s.par.ofqDepth s.ofq.length 1 = true →
        exec (.xtrByte 0x7E) s = .next { s with
          facc := [], flen := 0, ofq := s.ofq ++ [⟨s.facc, verifyOk s.facc⟩] }) ∧
      (room s.par.ofqDepth s.ofq.length 1 = false →
        exec (.xtrByte 0x7E) s = .next (raiseCmd .qfull 0x4500007E s)))

/-- 44 R154: over a byte sequence whose flag-delimited segments are at most FRAME_MAX bytes, the frames emitted are the
segments longer than 2 bytes, in order; what comes before the first flag or after the last is not emitted; a flag-free
sequence gives none. -/
def Obligations.ExtractFramesGivesSegments : Prop :=
  ∀ (fm : Nat) (before after : List Byte) (segs : List (List Byte)),
    (∀ v ∈ before, v ≠ 0x7E) → (∀ v ∈ after, v ≠ 0x7E) →
    (∀ g ∈ segs, g.length ≤ fm ∧ ∀ v ∈ g, v ≠ 0x7E) →
    extractFrames fm before = [] ∧
    extractFrames fm (before ++ [0x7E] ++ segs.flatMap (fun g => g ++ [0x7E]) ++ after) =
      segs.filter (fun g => 2 < g.length)

/-- 44 R160, R161: RX.LVL, once through `rx_step` and once written out. It stores what `rx_step` leaves, pushes the
record of an emitted frame, sets FOVF for a dropped overlong one, and raises E_QFULL with no effect when a frame is due
and OFQ is full. Written out, for DCNT in its range 0 to 6: DPRV takes the level, and the decoded bit is 1 iff the level
is the previous one; a 0 at DCNT = 5 is consumed and reaches no later stage; any other bit sets DCNT (a 1 counts up to
6, a 0 clears it) and goes into PSR; the eighth completes a byte, which the extractor takes: ignored before the first
flag, accumulated, marking the frame overlong, or as a flag; FLEN is the length of FACC. -/
def Obligations.RxLvlStepsTheChain : Prop :=
  (∀ (s : State) (v : Byte) (r : RxResult) (t : State),
    r = rxStep s.par.frameMax (rxUnit s) v →
    t = { s with
      dprv := r.unit.dprv, dcnt := r.unit.dcnt, psr := r.unit.psr, pcnt := r.unit.pcnt, xst := r.unit.ext.st,
      facc := r.unit.ext.acc, flen := BitVec.ofNat 16 r.unit.ext.acc.length, xovl := r.unit.ext.ovl } →
    decode (0x68000000#32 ||| v.setWidth 32) = .ok (.rxLvl v) ∧
    (r.out = none → exec (.rxLvl v) s =
      .next { t with err := if r.drop then s.err ||| 0x00000200 else s.err }) ∧
    (∀ fr, r.out = some fr →
      (room s.par.ofqDepth s.ofq.length 1 = true →
        exec (.rxLvl v) s = .next { t with ofq := s.ofq ++ [⟨fr, verifyOk fr⟩] }) ∧
      (room s.par.ofqDepth s.ofq.length 1 = false →
        exec (.rxLvl v) s = .next (raiseCmd .qfull (0x68000000#32 ||| v.setWidth 32) s)))) ∧
  (∀ (s : State) (v : Byte) (level bit : Bool) (cnt : BitVec 3) (y : Byte) (t : State), s.dcnt.toNat ≤ 6 →
    level = decide (0 < v.toNat) → bit = decide (s.dprv = level) →
    cnt = (if bit then (if s.dcnt.toNat < 5 then s.dcnt + 1 else 6) else 0) →
    y = (s.psr <<< 1) ||| (BitVec.ofBool bit).setWidth 8 →
    t = { s with dprv := level, dcnt := cnt, psr := 0, pcnt := 0 } →
    (s.dcnt.toNat = 5 → bit = false →
      exec (.rxLvl v) s = .next { s with dprv := level, dcnt := 0, flen := BitVec.ofNat 16 s.facc.length }) ∧
    (s.dcnt.toNat ≠ 5 ∨ bit = true →
      (s.pcnt.toNat < 7 → exec (.rxLvl v) s = .next { s with
        dprv := level, dcnt := cnt, psr := y, pcnt := s.pcnt + 1, flen := BitVec.ofNat 16 s.facc.length }) ∧
      (s.pcnt.toNat = 7 →
        (y ≠ 0x7E → s.xst = .searching →
          exec (.rxLvl v) s = .next { t with facc := [], flen := 0, xovl := false }) ∧
        (y ≠ 0x7E → s.xst = .inFrame → s.facc.length < s.par.frameMax →
          exec (.rxLvl v) s = .next { t with
            facc := s.facc ++ [y], flen := BitVec.ofNat 16 (s.facc.length + 1) }) ∧
        (y ≠ 0x7E → s.xst = .inFrame → s.par.frameMax ≤ s.facc.length →
          exec (.rxLvl v) s = .next { t with flen := BitVec.ofNat 16 s.facc.length, xovl := true }) ∧
        (y = 0x7E → s.xst = .searching ∨ (s.xovl = false ∧ s.facc.length ≤ 2) →
          exec (.rxLvl v) s = .next { t with xst := .inFrame, facc := [], flen := 0, xovl := false }) ∧
        (y = 0x7E → s.xst = .inFrame → s.xovl = true →
          exec (.rxLvl v) s = .next { t with
            xst := .inFrame, facc := [], flen := 0, xovl := false, err := s.err ||| 0x00000200 }) ∧
        (y = 0x7E → s.xst = .inFrame → s.xovl = false → 2 < s.facc.length →
          (room s.par.ofqDepth s.ofq.length 1 = true →
            exec (.rxLvl v) s = .next { t with
              facc := [], flen := 0, ofq := s.ofq ++ [⟨s.facc, verifyOk s.facc⟩] }) ∧
          (room s.par.ofqDepth s.ofq.length 1 = false →
            exec (.rxLvl v) s = .next (raiseCmd .qfull (0x68000000#32 ||| v.setWidth 32) s))))))

/-- 44 R160, section 1: the receive chain stepped level by level emits what the four sequence functions emit one after
the other: NRZI decode, destuff, byte packing, frame extraction. -/
def Obligations.ReceiveChainIsStagesInOrder : Prop :=
  ∀ (fm : Nat) (vs : List Byte),
    receiveFrames fm vs = extractFrames fm (pack (destuff (nrziDecode (vs.map (fun v => decide (0 < v.toNat))))))

/-- 44 R164: the loop property. From the state RX.END leaves, RX.LVL for each level TX.LEVELS produces (any nonzero byte
for level 1) puts exactly one record in OFQ, payload and checksum packed, ok = true, pushed by the last command; ERR is
untouched. OFQ is taken to have room for that one record. -/
def Obligations.TransmittedFrameIsReceived : Prop :=
  ∀ (s0 s : State) (p : Bits) (n : Nat) (vs : List Byte),
    exec .rxEnd s0 = .next s → room s.par.ofqDepth s.ofq.length 1 = true →
    p.length % 8 = 0 → 8 ≤ p.length → n % 8 = 0 → p.length / 8 + 2 ≤ s.par.frameMax →
    (∀ v ∈ pack (p ++ checksum16 p), v ≠ 0x7E) →
    vs.map (fun v => decide (0 < v.toNat)) = nrziEncode (frame p n) →
    ∃ before last, vs = before ++ [last] ∧
      (∃ u, runCommands (before.map .rxLvl) s = .next u ∧ u.ofq = s.ofq ∧ u.err = s.err) ∧
      ∃ t, runCommands (vs.map .rxLvl) s = .next t ∧ t.ofq = s.ofq ++ [⟨pack (p ++ checksum16 p), true⟩] ∧
        t.err = s.err ∧ t.errcmd = s.errcmd ∧ t.xst = .inFrame ∧ t.facc = []

/-! ### Registers -/

/-- 10_state.md R20 to R28, 45 R170: each configuration register has its own field: a write stores the written bits of
that field as they are and changes nothing else, a read returns that field with 0 above it and changes nothing. So a
register reads back what was written, and no other register changes (COEF_DATA follows CADDR, and the pop registers are
not read). That the model's own fields stay (`bus`, `readData`, `par`, `resets`) is the model's choice (log entries 1, 2,
3, 5). -/
def Obligations.ConfigurationReadsBackAsWritten : Prop :=
  (∀ (v : Word) (s : State),
    regWrite 4 v s = .next { s with preambleLen := v.extractLsb' 0 16 } ∧
    regWrite 5 v s = .next { s with sps := v.extractLsb' 0 9 } ∧
    regWrite 6 v s = .next { s with phinc := v } ∧
    regWrite 7 v s = .next { s with wakeLen := v.extractLsb' 0 24 } ∧
    regWrite 8 v s = .next { s with wakePhinc := v } ∧
    regWrite 9 v s = .next { s with bufLen := v.extractLsb' 0 24 } ∧
    regWrite 10 v s = .next { s with fit := v.extractLsb' 0 2 } ∧
    regWrite 11 v s = .next { s with caddr := v.extractLsb' 0 12 }) ∧
  (∀ s : State,
    regRead 4 s = (s, 0#16 ++ s.preambleLen) ∧ regRead 5 s = (s, 0#23 ++ s.sps) ∧ regRead 6 s = (s, s.phinc) ∧
    regRead 7 s = (s, 0#8 ++ s.wakeLen) ∧ regRead 8 s = (s, s.wakePhinc) ∧ regRead 9 s = (s, 0#8 ++ s.bufLen) ∧
    regRead 10 s = (s, 0#30 ++ s.fit) ∧ regRead 11 s = (s, 0#20 ++ s.caddr)) ∧
  ∀ (n : Nat) (mask : Word),
    (n, mask) ∈ [(4, 0x0000FFFF#32), (5, 0x000001FF#32), (6, 0xFFFFFFFF#32), (7, 0x00FFFFFF#32), (8, 0xFFFFFFFF#32),
      (9, 0x00FFFFFF#32), (10, 0x00000003#32), (11, 0x00000FFF#32)] →
    ∀ (v : Word) (s : State), ∃ t, regWrite n v s = .next t ∧ regRead n t = (t, v &&& mask) ∧
      (∀ m, m ≠ n → m ∉ [12, 20, 22, 25, 27] → (regRead m t).2 = (regRead m s).2) ∧
      t.coef = s.coef ∧ SameTransmit s t ∧ SameReceive s t ∧ t.pbuf = s.pbuf ∧ t.obq = s.obq ∧ t.oyq = s.oyq ∧
      t.ofq = s.ofq ∧ t.osq = s.osq ∧ t.frd = s.frd ∧ t.bus = s.bus ∧ t.par = s.par

/-- 45 R181, 10_state.md R28, R34: COEF_DATA reaches entry CADDR and moves CADDR on by one; a write changes that entry
alone, and reading the entry back gives the 25 bits written; with CADDR ≥ 2049 either is refused. -/
def Obligations.CoefReadsBackAsWritten : Prop :=
  ∀ (s : State) (v : Word),
    (s.caddr.toNat < 2049 →
      (∃ t, regWrite 12 v s = .next t ∧ t = { s with coef := t.coef, caddr := t.caddr } ∧
        t.caddr.toNat = s.caddr.toNat + 1 ∧ coefAt t s.caddr.toNat = v.extractLsb' 0 25 ∧
        (∀ k, k ≠ s.caddr.toNat → coefAt t k = coefAt s k) ∧
        (regRead 12 { t with caddr := s.caddr }).2 = v &&& 0x01FFFFFF) ∧
      (regRead 12 s).1 = { s with caddr := BitVec.ofNat 12 (s.caddr.toNat + 1) } ∧
      (regRead 12 s).2.toNat = (coefAt s s.caddr.toNat).toNat) ∧
    (2049 ≤ s.caddr.toNat →
      regWrite 12 v s = .next (raiseAccess .regacc s) ∧ regRead 12 s = (raiseAccess .regacc s, 0))

/-- 45 R177 to R180: the pop registers return the head with VALID and remove it (OFQ_DATA steps past a byte and keeps
the record, OFQ_HEAD changes nothing), and an empty queue, or a record read to its end, is E_QEMPTY with 0 returned; a write to
any of them is E_REGACC. -/
def Obligations.PopRegistersReturnHead : Prop :=
  ∀ s : State,
    (s.obq = [] → regRead 20 s = (raiseAccess .qempty s, 0)) ∧
    (∀ b rest, s.obq = b :: rest →
      regRead 20 s = ({ s with obq := rest }, if b then 0x80000001 else 0x80000000)) ∧
    (s.oyq = [] → regRead 22 s = (raiseAccess .qempty s, 0)) ∧
    (∀ y rest, s.oyq = y :: rest → (regRead 22 s).1 = { s with oyq := rest } ∧
      (regRead 22 s).2.toNat = 2 ^ 31 + y.toNat) ∧
    (s.ofq = [] → regRead 24 s = (s, 0) ∧ regRead 25 s = (raiseAccess .qempty s, 0)) ∧
    (∀ fr rest, s.ofq = fr :: rest → fr.bytes.length < 2 ^ 16 →
      ((regRead 24 s).1 = s ∧
        (regRead 24 s).2.toNat = 2 ^ 31 + (if fr.ok then 2 ^ 16 else 0) + fr.bytes.length) ∧
      (fr.bytes.length ≤ s.frd.toNat → regRead 25 s = (raiseAccess .qempty s, 0)) ∧
      (∀ y, fr.bytes[s.frd.toNat]? = some y → (regRead 25 s).1 = { s with frd := s.frd + 1 } ∧
        (regRead 25 s).2.toNat = 2 ^ 31 + y.toNat)) ∧
    (s.osq = [] → regRead 27 s = (raiseAccess .qempty s, 0)) ∧
    (∀ x rest, s.osq = x :: rest → (regRead 27 s).1 = { s with osq := rest } ∧
      (regRead 27 s).2.toNat = x.q.toNat * 2 ^ 16 + x.i.toNat) ∧
    (∀ n ∈ [20, 22, 24, 25, 27], ∀ v, regWrite n v s = .next (raiseAccess .regacc s))

/-- 10_state.md R29, R32: the fields of the view registers STATUS, ST_CRC, ST_CODEC, ST_FLEN, ST_ACC_LO, ST_ACC_HI,
PB_LEN and AMP, and their reserved bits; R30, R31, 45 R170: ERR and ERRCMD read as they stand; R33, 45 R182: the counts;
20 R44: every read but those with a side effect changes nothing. -/
def Obligations.ViewsShowTheUnits : Prop :=
  ∀ s : State,
    (∀ n ≤ 28, n ∉ [0, 12, 20, 22, 25, 27] → (regRead n s).1 = s) ∧
    regRead 2 s = (s, s.err) ∧ regRead 3 s = (s, s.errcmd) ∧
    (∀ st, st = (regRead 1 s).2 →
      (st.getLsbD 0 = true ↔ s.obq ≠ []) ∧ (st.getLsbD 1 = true ↔ s.oyq ≠ []) ∧ (st.getLsbD 2 = true ↔ s.ofq ≠ []) ∧
      (st.getLsbD 3 = true ↔ s.osq ≠ []) ∧ (st.getLsbD 4 = true ↔ s.pbuf ≠ []) ∧
      (st.getLsbD 5 = true ↔ s.xst = .inFrame) ∧ st.extractLsb' 6 26 = 0) ∧
    ((regRead 13 s).2.extractLsb' 0 16 = s.crc ∧ (regRead 13 s).2.extractLsb' 16 16 = ~~~s.crc) ∧
    (∀ c, c = (regRead 14 s).2 →
      c.extractLsb' 0 3 = s.scnt ∧ c.extractLsb' 4 3 = s.dcnt ∧ c.getLsbD 8 = s.elvl ∧ c.getLsbD 9 = s.dprv ∧
      c.extractLsb' 12 3 = s.pcnt ∧ c.extractLsb' 16 8 = s.psr ∧ (c.getLsbD 24 = true ↔ s.xst = .inFrame) ∧
      c.getLsbD 25 = s.xovl ∧ c.getLsbD 3 = false ∧ c.getLsbD 7 = false ∧ c.extractLsb' 10 2 = 0 ∧
      c.getLsbD 15 = false ∧ c.extractLsb' 26 6 = 0) ∧
    (regRead 15 s).2.toNat = s.flen.toNat ∧
    (regRead 17 s).2.toNat * 2 ^ 32 + (regRead 16 s).2.toNat = s.acc.toNat ∧
    (s.pbuf.length < 2 ^ 32 → (regRead 18 s).2.toNat = s.pbuf.length) ∧
    (s.par.amp < 2 ^ 16 → (regRead 28 s).2.toNat = s.par.amp) ∧
    (regRead 19 s).2.toNat = min s.obq.length (2 ^ 32 - 1) ∧ (regRead 21 s).2.toNat = min s.oyq.length (2 ^ 32 - 1) ∧
    (regRead 23 s).2.toNat = min s.ofq.length (2 ^ 32 - 1) ∧ (regRead 26 s).2.toNat = min s.osq.length (2 ^ 32 - 1)

/-- 60 R197, 20 R45, 10_state.md R20: a read of CMD or of a number above 28, a write to a read-only register or to a
number above 28, and an access to COEF_DATA with CADDR ≥ 2049 raise E_REGACC; a refused read returns 0, a refused write
stores nothing. -/
def Obligations.WrongAccessIsRefused : Prop :=
  ∀ (n : Nat) (v : Word) (s : State),
    (n = 0 ∨ 28 < n → regRead n s = (raiseAccess .regacc s, 0)) ∧
    (n = 1 ∨ n = 3 ∨ 13 ≤ n → regWrite n v s = .next (raiseAccess .regacc s)) ∧
    (2049 ≤ s.caddr.toNat →
      regRead 12 s = (raiseAccess .regacc s, 0) ∧ regWrite 12 v s = .next (raiseAccess .regacc s))
end

