-- ==== Sys2Proof/Laws/State.lean ====
section
/-! SUPPORT. What each named update of the state leaves in each field: one lemma per field per update, all by rfl. -/

namespace Sys2Proof.Machine

variable (s : State)

/-! ### raiseCmd -/

@[simp] theorem raiseCmd_crc (k : ErrKind) (w : Word) : (raiseCmd k w s).crc = s.crc := rfl
@[simp] theorem raiseCmd_scnt (k : ErrKind) (w : Word) : (raiseCmd k w s).scnt = s.scnt := rfl
@[simp] theorem raiseCmd_dcnt (k : ErrKind) (w : Word) : (raiseCmd k w s).dcnt = s.dcnt := rfl
@[simp] theorem raiseCmd_elvl (k : ErrKind) (w : Word) : (raiseCmd k w s).elvl = s.elvl := rfl
@[simp] theorem raiseCmd_dprv (k : ErrKind) (w : Word) : (raiseCmd k w s).dprv = s.dprv := rfl
@[simp] theorem raiseCmd_psr (k : ErrKind) (w : Word) : (raiseCmd k w s).psr = s.psr := rfl
@[simp] theorem raiseCmd_pcnt (k : ErrKind) (w : Word) : (raiseCmd k w s).pcnt = s.pcnt := rfl
@[simp] theorem raiseCmd_xst (k : ErrKind) (w : Word) : (raiseCmd k w s).xst = s.xst := rfl
@[simp] theorem raiseCmd_xovl (k : ErrKind) (w : Word) : (raiseCmd k w s).xovl = s.xovl := rfl
@[simp] theorem raiseCmd_flen (k : ErrKind) (w : Word) : (raiseCmd k w s).flen = s.flen := rfl
@[simp] theorem raiseCmd_facc (k : ErrKind) (w : Word) : (raiseCmd k w s).facc = s.facc := rfl
@[simp] theorem raiseCmd_dl (k : ErrKind) (w : Word) : (raiseCmd k w s).dl = s.dl := rfl
@[simp] theorem raiseCmd_acc (k : ErrKind) (w : Word) : (raiseCmd k w s).acc = s.acc := rfl
@[simp] theorem raiseCmd_preambleLen (k : ErrKind) (w : Word) : (raiseCmd k w s).preambleLen = s.preambleLen := rfl
@[simp] theorem raiseCmd_sps (k : ErrKind) (w : Word) : (raiseCmd k w s).sps = s.sps := rfl
@[simp] theorem raiseCmd_phinc (k : ErrKind) (w : Word) : (raiseCmd k w s).phinc = s.phinc := rfl
@[simp] theorem raiseCmd_wakeLen (k : ErrKind) (w : Word) : (raiseCmd k w s).wakeLen = s.wakeLen := rfl
@[simp] theorem raiseCmd_wakePhinc (k : ErrKind) (w : Word) : (raiseCmd k w s).wakePhinc = s.wakePhinc := rfl
@[simp] theorem raiseCmd_bufLen (k : ErrKind) (w : Word) : (raiseCmd k w s).bufLen = s.bufLen := rfl
@[simp] theorem raiseCmd_fit (k : ErrKind) (w : Word) : (raiseCmd k w s).fit = s.fit := rfl
@[simp] theorem raiseCmd_caddr (k : ErrKind) (w : Word) : (raiseCmd k w s).caddr = s.caddr := rfl
@[simp] theorem raiseCmd_err (k : ErrKind) (w : Word) : (raiseCmd k w s).err = errAfter k s.err := rfl
@[simp] theorem raiseCmd_errcmd (k : ErrKind) (w : Word) : (raiseCmd k w s).errcmd = w := rfl
@[simp] theorem raiseCmd_coef (k : ErrKind) (w : Word) : (raiseCmd k w s).coef = s.coef := rfl
@[simp] theorem raiseCmd_pbuf (k : ErrKind) (w : Word) : (raiseCmd k w s).pbuf = s.pbuf := rfl
@[simp] theorem raiseCmd_obq (k : ErrKind) (w : Word) : (raiseCmd k w s).obq = s.obq := rfl
@[simp] theorem raiseCmd_oyq (k : ErrKind) (w : Word) : (raiseCmd k w s).oyq = s.oyq := rfl
@[simp] theorem raiseCmd_ofq (k : ErrKind) (w : Word) : (raiseCmd k w s).ofq = s.ofq := rfl
@[simp] theorem raiseCmd_osq (k : ErrKind) (w : Word) : (raiseCmd k w s).osq = s.osq := rfl
@[simp] theorem raiseCmd_frd (k : ErrKind) (w : Word) : (raiseCmd k w s).frd = s.frd := rfl
@[simp] theorem raiseCmd_par (k : ErrKind) (w : Word) : (raiseCmd k w s).par = s.par := rfl
@[simp] theorem raiseCmd_bus (k : ErrKind) (w : Word) : (raiseCmd k w s).bus = s.bus := rfl
@[simp] theorem raiseCmd_readData (k : ErrKind) (w : Word) : (raiseCmd k w s).readData = s.readData := rfl
@[simp] theorem raiseCmd_resets (k : ErrKind) (w : Word) : (raiseCmd k w s).resets = s.resets := rfl

/-! ### raiseAccess -/

@[simp] theorem raiseAccess_crc (k : ErrKind) : (raiseAccess k s).crc = s.crc := rfl
@[simp] theorem raiseAccess_scnt (k : ErrKind) : (raiseAccess k s).scnt = s.scnt := rfl
@[simp] theorem raiseAccess_dcnt (k : ErrKind) : (raiseAccess k s).dcnt = s.dcnt := rfl
@[simp] theorem raiseAccess_elvl (k : ErrKind) : (raiseAccess k s).elvl = s.elvl := rfl
@[simp] theorem raiseAccess_dprv (k : ErrKind) : (raiseAccess k s).dprv = s.dprv := rfl
@[simp] theorem raiseAccess_psr (k : ErrKind) : (raiseAccess k s).psr = s.psr := rfl
@[simp] theorem raiseAccess_pcnt (k : ErrKind) : (raiseAccess k s).pcnt = s.pcnt := rfl
@[simp] theorem raiseAccess_xst (k : ErrKind) : (raiseAccess k s).xst = s.xst := rfl
@[simp] theorem raiseAccess_xovl (k : ErrKind) : (raiseAccess k s).xovl = s.xovl := rfl
@[simp] theorem raiseAccess_flen (k : ErrKind) : (raiseAccess k s).flen = s.flen := rfl
@[simp] theorem raiseAccess_facc (k : ErrKind) : (raiseAccess k s).facc = s.facc := rfl
@[simp] theorem raiseAccess_dl (k : ErrKind) : (raiseAccess k s).dl = s.dl := rfl
@[simp] theorem raiseAccess_acc (k : ErrKind) : (raiseAccess k s).acc = s.acc := rfl
@[simp] theorem raiseAccess_preambleLen (k : ErrKind) : (raiseAccess k s).preambleLen = s.preambleLen := rfl
@[simp] theorem raiseAccess_sps (k : ErrKind) : (raiseAccess k s).sps = s.sps := rfl
@[simp] theorem raiseAccess_phinc (k : ErrKind) : (raiseAccess k s).phinc = s.phinc := rfl
@[simp] theorem raiseAccess_wakeLen (k : ErrKind) : (raiseAccess k s).wakeLen = s.wakeLen := rfl
@[simp] theorem raiseAccess_wakePhinc (k : ErrKind) : (raiseAccess k s).wakePhinc = s.wakePhinc := rfl
@[simp] theorem raiseAccess_bufLen (k : ErrKind) : (raiseAccess k s).bufLen = s.bufLen := rfl
@[simp] theorem raiseAccess_fit (k : ErrKind) : (raiseAccess k s).fit = s.fit := rfl
@[simp] theorem raiseAccess_caddr (k : ErrKind) : (raiseAccess k s).caddr = s.caddr := rfl
@[simp] theorem raiseAccess_err (k : ErrKind) : (raiseAccess k s).err = errAfter k s.err := rfl
@[simp] theorem raiseAccess_errcmd (k : ErrKind) : (raiseAccess k s).errcmd = s.errcmd := rfl
@[simp] theorem raiseAccess_coef (k : ErrKind) : (raiseAccess k s).coef = s.coef := rfl
@[simp] theorem raiseAccess_pbuf (k : ErrKind) : (raiseAccess k s).pbuf = s.pbuf := rfl
@[simp] theorem raiseAccess_obq (k : ErrKind) : (raiseAccess k s).obq = s.obq := rfl
@[simp] theorem raiseAccess_oyq (k : ErrKind) : (raiseAccess k s).oyq = s.oyq := rfl
@[simp] theorem raiseAccess_ofq (k : ErrKind) : (raiseAccess k s).ofq = s.ofq := rfl
@[simp] theorem raiseAccess_osq (k : ErrKind) : (raiseAccess k s).osq = s.osq := rfl
@[simp] theorem raiseAccess_frd (k : ErrKind) : (raiseAccess k s).frd = s.frd := rfl
@[simp] theorem raiseAccess_par (k : ErrKind) : (raiseAccess k s).par = s.par := rfl
@[simp] theorem raiseAccess_bus (k : ErrKind) : (raiseAccess k s).bus = s.bus := rfl
@[simp] theorem raiseAccess_readData (k : ErrKind) : (raiseAccess k s).readData = s.readData := rfl
@[simp] theorem raiseAccess_resets (k : ErrKind) : (raiseAccess k s).resets = s.resets := rfl

/-! ### setEvent -/

@[simp] theorem setEvent_crc (k : EventKind) : (setEvent k s).crc = s.crc := rfl
@[simp] theorem setEvent_scnt (k : EventKind) : (setEvent k s).scnt = s.scnt := rfl
@[simp] theorem setEvent_dcnt (k : EventKind) : (setEvent k s).dcnt = s.dcnt := rfl
@[simp] theorem setEvent_elvl (k : EventKind) : (setEvent k s).elvl = s.elvl := rfl
@[simp] theorem setEvent_dprv (k : EventKind) : (setEvent k s).dprv = s.dprv := rfl
@[simp] theorem setEvent_psr (k : EventKind) : (setEvent k s).psr = s.psr := rfl
@[simp] theorem setEvent_pcnt (k : EventKind) : (setEvent k s).pcnt = s.pcnt := rfl
@[simp] theorem setEvent_xst (k : EventKind) : (setEvent k s).xst = s.xst := rfl
@[simp] theorem setEvent_xovl (k : EventKind) : (setEvent k s).xovl = s.xovl := rfl
@[simp] theorem setEvent_flen (k : EventKind) : (setEvent k s).flen = s.flen := rfl
@[simp] theorem setEvent_facc (k : EventKind) : (setEvent k s).facc = s.facc := rfl
@[simp] theorem setEvent_dl (k : EventKind) : (setEvent k s).dl = s.dl := rfl
@[simp] theorem setEvent_acc (k : EventKind) : (setEvent k s).acc = s.acc := rfl
@[simp] theorem setEvent_preambleLen (k : EventKind) : (setEvent k s).preambleLen = s.preambleLen := rfl
@[simp] theorem setEvent_sps (k : EventKind) : (setEvent k s).sps = s.sps := rfl
@[simp] theorem setEvent_phinc (k : EventKind) : (setEvent k s).phinc = s.phinc := rfl
@[simp] theorem setEvent_wakeLen (k : EventKind) : (setEvent k s).wakeLen = s.wakeLen := rfl
@[simp] theorem setEvent_wakePhinc (k : EventKind) : (setEvent k s).wakePhinc = s.wakePhinc := rfl
@[simp] theorem setEvent_bufLen (k : EventKind) : (setEvent k s).bufLen = s.bufLen := rfl
@[simp] theorem setEvent_fit (k : EventKind) : (setEvent k s).fit = s.fit := rfl
@[simp] theorem setEvent_caddr (k : EventKind) : (setEvent k s).caddr = s.caddr := rfl
@[simp] theorem setEvent_err (k : EventKind) : (setEvent k s).err = eventAfter k s.err := rfl
@[simp] theorem setEvent_errcmd (k : EventKind) : (setEvent k s).errcmd = s.errcmd := rfl
@[simp] theorem setEvent_coef (k : EventKind) : (setEvent k s).coef = s.coef := rfl
@[simp] theorem setEvent_pbuf (k : EventKind) : (setEvent k s).pbuf = s.pbuf := rfl
@[simp] theorem setEvent_obq (k : EventKind) : (setEvent k s).obq = s.obq := rfl
@[simp] theorem setEvent_oyq (k : EventKind) : (setEvent k s).oyq = s.oyq := rfl
@[simp] theorem setEvent_ofq (k : EventKind) : (setEvent k s).ofq = s.ofq := rfl
@[simp] theorem setEvent_osq (k : EventKind) : (setEvent k s).osq = s.osq := rfl
@[simp] theorem setEvent_frd (k : EventKind) : (setEvent k s).frd = s.frd := rfl
@[simp] theorem setEvent_par (k : EventKind) : (setEvent k s).par = s.par := rfl
@[simp] theorem setEvent_bus (k : EventKind) : (setEvent k s).bus = s.bus := rfl
@[simp] theorem setEvent_readData (k : EventKind) : (setEvent k s).readData = s.readData := rfl
@[simp] theorem setEvent_resets (k : EventKind) : (setEvent k s).resets = s.resets := rfl

/-! ### clearErr -/

@[simp] theorem clearErr_crc (v : Word) : (clearErr v s).crc = s.crc := rfl
@[simp] theorem clearErr_scnt (v : Word) : (clearErr v s).scnt = s.scnt := rfl
@[simp] theorem clearErr_dcnt (v : Word) : (clearErr v s).dcnt = s.dcnt := rfl
@[simp] theorem clearErr_elvl (v : Word) : (clearErr v s).elvl = s.elvl := rfl
@[simp] theorem clearErr_dprv (v : Word) : (clearErr v s).dprv = s.dprv := rfl
@[simp] theorem clearErr_psr (v : Word) : (clearErr v s).psr = s.psr := rfl
@[simp] theorem clearErr_pcnt (v : Word) : (clearErr v s).pcnt = s.pcnt := rfl
@[simp] theorem clearErr_xst (v : Word) : (clearErr v s).xst = s.xst := rfl
@[simp] theorem clearErr_xovl (v : Word) : (clearErr v s).xovl = s.xovl := rfl
@[simp] theorem clearErr_flen (v : Word) : (clearErr v s).flen = s.flen := rfl
@[simp] theorem clearErr_facc (v : Word) : (clearErr v s).facc = s.facc := rfl
@[simp] theorem clearErr_dl (v : Word) : (clearErr v s).dl = s.dl := rfl
@[simp] theorem clearErr_acc (v : Word) : (clearErr v s).acc = s.acc := rfl
@[simp] theorem clearErr_preambleLen (v : Word) : (clearErr v s).preambleLen = s.preambleLen := rfl
@[simp] theorem clearErr_sps (v : Word) : (clearErr v s).sps = s.sps := rfl
@[simp] theorem clearErr_phinc (v : Word) : (clearErr v s).phinc = s.phinc := rfl
@[simp] theorem clearErr_wakeLen (v : Word) : (clearErr v s).wakeLen = s.wakeLen := rfl
@[simp] theorem clearErr_wakePhinc (v : Word) : (clearErr v s).wakePhinc = s.wakePhinc := rfl
@[simp] theorem clearErr_bufLen (v : Word) : (clearErr v s).bufLen = s.bufLen := rfl
@[simp] theorem clearErr_fit (v : Word) : (clearErr v s).fit = s.fit := rfl
@[simp] theorem clearErr_caddr (v : Word) : (clearErr v s).caddr = s.caddr := rfl
@[simp] theorem clearErr_err (v : Word) : (clearErr v s).err = w1cAfter v s.err := rfl
@[simp] theorem clearErr_errcmd (v : Word) : (clearErr v s).errcmd = s.errcmd := rfl
@[simp] theorem clearErr_coef (v : Word) : (clearErr v s).coef = s.coef := rfl
@[simp] theorem clearErr_pbuf (v : Word) : (clearErr v s).pbuf = s.pbuf := rfl
@[simp] theorem clearErr_obq (v : Word) : (clearErr v s).obq = s.obq := rfl
@[simp] theorem clearErr_oyq (v : Word) : (clearErr v s).oyq = s.oyq := rfl
@[simp] theorem clearErr_ofq (v : Word) : (clearErr v s).ofq = s.ofq := rfl
@[simp] theorem clearErr_osq (v : Word) : (clearErr v s).osq = s.osq := rfl
@[simp] theorem clearErr_frd (v : Word) : (clearErr v s).frd = s.frd := rfl
@[simp] theorem clearErr_par (v : Word) : (clearErr v s).par = s.par := rfl
@[simp] theorem clearErr_bus (v : Word) : (clearErr v s).bus = s.bus := rfl
@[simp] theorem clearErr_readData (v : Word) : (clearErr v s).readData = s.readData := rfl
@[simp] theorem clearErr_resets (v : Word) : (clearErr v s).resets = s.resets := rfl

/-! ### pushObq -/

@[simp] theorem pushObq_crc (out : Bits) : (pushObq out s).crc = s.crc := rfl
@[simp] theorem pushObq_scnt (out : Bits) : (pushObq out s).scnt = s.scnt := rfl
@[simp] theorem pushObq_dcnt (out : Bits) : (pushObq out s).dcnt = s.dcnt := rfl
@[simp] theorem pushObq_elvl (out : Bits) : (pushObq out s).elvl = s.elvl := rfl
@[simp] theorem pushObq_dprv (out : Bits) : (pushObq out s).dprv = s.dprv := rfl
@[simp] theorem pushObq_psr (out : Bits) : (pushObq out s).psr = s.psr := rfl
@[simp] theorem pushObq_pcnt (out : Bits) : (pushObq out s).pcnt = s.pcnt := rfl
@[simp] theorem pushObq_xst (out : Bits) : (pushObq out s).xst = s.xst := rfl
@[simp] theorem pushObq_xovl (out : Bits) : (pushObq out s).xovl = s.xovl := rfl
@[simp] theorem pushObq_flen (out : Bits) : (pushObq out s).flen = s.flen := rfl
@[simp] theorem pushObq_facc (out : Bits) : (pushObq out s).facc = s.facc := rfl
@[simp] theorem pushObq_dl (out : Bits) : (pushObq out s).dl = s.dl := rfl
@[simp] theorem pushObq_acc (out : Bits) : (pushObq out s).acc = s.acc := rfl
@[simp] theorem pushObq_preambleLen (out : Bits) : (pushObq out s).preambleLen = s.preambleLen := rfl
@[simp] theorem pushObq_sps (out : Bits) : (pushObq out s).sps = s.sps := rfl
@[simp] theorem pushObq_phinc (out : Bits) : (pushObq out s).phinc = s.phinc := rfl
@[simp] theorem pushObq_wakeLen (out : Bits) : (pushObq out s).wakeLen = s.wakeLen := rfl
@[simp] theorem pushObq_wakePhinc (out : Bits) : (pushObq out s).wakePhinc = s.wakePhinc := rfl
@[simp] theorem pushObq_bufLen (out : Bits) : (pushObq out s).bufLen = s.bufLen := rfl
@[simp] theorem pushObq_fit (out : Bits) : (pushObq out s).fit = s.fit := rfl
@[simp] theorem pushObq_caddr (out : Bits) : (pushObq out s).caddr = s.caddr := rfl
@[simp] theorem pushObq_err (out : Bits) : (pushObq out s).err = s.err := rfl
@[simp] theorem pushObq_errcmd (out : Bits) : (pushObq out s).errcmd = s.errcmd := rfl
@[simp] theorem pushObq_coef (out : Bits) : (pushObq out s).coef = s.coef := rfl
@[simp] theorem pushObq_pbuf (out : Bits) : (pushObq out s).pbuf = s.pbuf := rfl
@[simp] theorem pushObq_obq (out : Bits) : (pushObq out s).obq = s.obq ++ out := rfl
@[simp] theorem pushObq_oyq (out : Bits) : (pushObq out s).oyq = s.oyq := rfl
@[simp] theorem pushObq_ofq (out : Bits) : (pushObq out s).ofq = s.ofq := rfl
@[simp] theorem pushObq_osq (out : Bits) : (pushObq out s).osq = s.osq := rfl
@[simp] theorem pushObq_frd (out : Bits) : (pushObq out s).frd = s.frd := rfl
@[simp] theorem pushObq_par (out : Bits) : (pushObq out s).par = s.par := rfl
@[simp] theorem pushObq_bus (out : Bits) : (pushObq out s).bus = s.bus := rfl
@[simp] theorem pushObq_readData (out : Bits) : (pushObq out s).readData = s.readData := rfl
@[simp] theorem pushObq_resets (out : Bits) : (pushObq out s).resets = s.resets := rfl

/-! ### pushOyq -/

@[simp] theorem pushOyq_crc (out : List Byte) : (pushOyq out s).crc = s.crc := rfl
@[simp] theorem pushOyq_scnt (out : List Byte) : (pushOyq out s).scnt = s.scnt := rfl
@[simp] theorem pushOyq_dcnt (out : List Byte) : (pushOyq out s).dcnt = s.dcnt := rfl
@[simp] theorem pushOyq_elvl (out : List Byte) : (pushOyq out s).elvl = s.elvl := rfl
@[simp] theorem pushOyq_dprv (out : List Byte) : (pushOyq out s).dprv = s.dprv := rfl
@[simp] theorem pushOyq_psr (out : List Byte) : (pushOyq out s).psr = s.psr := rfl
@[simp] theorem pushOyq_pcnt (out : List Byte) : (pushOyq out s).pcnt = s.pcnt := rfl
@[simp] theorem pushOyq_xst (out : List Byte) : (pushOyq out s).xst = s.xst := rfl
@[simp] theorem pushOyq_xovl (out : List Byte) : (pushOyq out s).xovl = s.xovl := rfl
@[simp] theorem pushOyq_flen (out : List Byte) : (pushOyq out s).flen = s.flen := rfl
@[simp] theorem pushOyq_facc (out : List Byte) : (pushOyq out s).facc = s.facc := rfl
@[simp] theorem pushOyq_dl (out : List Byte) : (pushOyq out s).dl = s.dl := rfl
@[simp] theorem pushOyq_acc (out : List Byte) : (pushOyq out s).acc = s.acc := rfl
@[simp] theorem pushOyq_preambleLen (out : List Byte) : (pushOyq out s).preambleLen = s.preambleLen := rfl
@[simp] theorem pushOyq_sps (out : List Byte) : (pushOyq out s).sps = s.sps := rfl
@[simp] theorem pushOyq_phinc (out : List Byte) : (pushOyq out s).phinc = s.phinc := rfl
@[simp] theorem pushOyq_wakeLen (out : List Byte) : (pushOyq out s).wakeLen = s.wakeLen := rfl
@[simp] theorem pushOyq_wakePhinc (out : List Byte) : (pushOyq out s).wakePhinc = s.wakePhinc := rfl
@[simp] theorem pushOyq_bufLen (out : List Byte) : (pushOyq out s).bufLen = s.bufLen := rfl
@[simp] theorem pushOyq_fit (out : List Byte) : (pushOyq out s).fit = s.fit := rfl
@[simp] theorem pushOyq_caddr (out : List Byte) : (pushOyq out s).caddr = s.caddr := rfl
@[simp] theorem pushOyq_err (out : List Byte) : (pushOyq out s).err = s.err := rfl
@[simp] theorem pushOyq_errcmd (out : List Byte) : (pushOyq out s).errcmd = s.errcmd := rfl
@[simp] theorem pushOyq_coef (out : List Byte) : (pushOyq out s).coef = s.coef := rfl
@[simp] theorem pushOyq_pbuf (out : List Byte) : (pushOyq out s).pbuf = s.pbuf := rfl
@[simp] theorem pushOyq_obq (out : List Byte) : (pushOyq out s).obq = s.obq := rfl
@[simp] theorem pushOyq_oyq (out : List Byte) : (pushOyq out s).oyq = s.oyq ++ out := rfl
@[simp] theorem pushOyq_ofq (out : List Byte) : (pushOyq out s).ofq = s.ofq := rfl
@[simp] theorem pushOyq_osq (out : List Byte) : (pushOyq out s).osq = s.osq := rfl
@[simp] theorem pushOyq_frd (out : List Byte) : (pushOyq out s).frd = s.frd := rfl
@[simp] theorem pushOyq_par (out : List Byte) : (pushOyq out s).par = s.par := rfl
@[simp] theorem pushOyq_bus (out : List Byte) : (pushOyq out s).bus = s.bus := rfl
@[simp] theorem pushOyq_readData (out : List Byte) : (pushOyq out s).readData = s.readData := rfl
@[simp] theorem pushOyq_resets (out : List Byte) : (pushOyq out s).resets = s.resets := rfl

/-! ### pushOfq -/

@[simp] theorem pushOfq_crc (out : List FrameRecord) : (pushOfq out s).crc = s.crc := rfl
@[simp] theorem pushOfq_scnt (out : List FrameRecord) : (pushOfq out s).scnt = s.scnt := rfl
@[simp] theorem pushOfq_dcnt (out : List FrameRecord) : (pushOfq out s).dcnt = s.dcnt := rfl
@[simp] theorem pushOfq_elvl (out : List FrameRecord) : (pushOfq out s).elvl = s.elvl := rfl
@[simp] theorem pushOfq_dprv (out : List FrameRecord) : (pushOfq out s).dprv = s.dprv := rfl
@[simp] theorem pushOfq_psr (out : List FrameRecord) : (pushOfq out s).psr = s.psr := rfl
@[simp] theorem pushOfq_pcnt (out : List FrameRecord) : (pushOfq out s).pcnt = s.pcnt := rfl
@[simp] theorem pushOfq_xst (out : List FrameRecord) : (pushOfq out s).xst = s.xst := rfl
@[simp] theorem pushOfq_xovl (out : List FrameRecord) : (pushOfq out s).xovl = s.xovl := rfl
@[simp] theorem pushOfq_flen (out : List FrameRecord) : (pushOfq out s).flen = s.flen := rfl
@[simp] theorem pushOfq_facc (out : List FrameRecord) : (pushOfq out s).facc = s.facc := rfl
@[simp] theorem pushOfq_dl (out : List FrameRecord) : (pushOfq out s).dl = s.dl := rfl
@[simp] theorem pushOfq_acc (out : List FrameRecord) : (pushOfq out s).acc = s.acc := rfl
@[simp] theorem pushOfq_preambleLen (out : List FrameRecord) : (pushOfq out s).preambleLen = s.preambleLen := rfl
@[simp] theorem pushOfq_sps (out : List FrameRecord) : (pushOfq out s).sps = s.sps := rfl
@[simp] theorem pushOfq_phinc (out : List FrameRecord) : (pushOfq out s).phinc = s.phinc := rfl
@[simp] theorem pushOfq_wakeLen (out : List FrameRecord) : (pushOfq out s).wakeLen = s.wakeLen := rfl
@[simp] theorem pushOfq_wakePhinc (out : List FrameRecord) : (pushOfq out s).wakePhinc = s.wakePhinc := rfl
@[simp] theorem pushOfq_bufLen (out : List FrameRecord) : (pushOfq out s).bufLen = s.bufLen := rfl
@[simp] theorem pushOfq_fit (out : List FrameRecord) : (pushOfq out s).fit = s.fit := rfl
@[simp] theorem pushOfq_caddr (out : List FrameRecord) : (pushOfq out s).caddr = s.caddr := rfl
@[simp] theorem pushOfq_err (out : List FrameRecord) : (pushOfq out s).err = s.err := rfl
@[simp] theorem pushOfq_errcmd (out : List FrameRecord) : (pushOfq out s).errcmd = s.errcmd := rfl
@[simp] theorem pushOfq_coef (out : List FrameRecord) : (pushOfq out s).coef = s.coef := rfl
@[simp] theorem pushOfq_pbuf (out : List FrameRecord) : (pushOfq out s).pbuf = s.pbuf := rfl
@[simp] theorem pushOfq_obq (out : List FrameRecord) : (pushOfq out s).obq = s.obq := rfl
@[simp] theorem pushOfq_oyq (out : List FrameRecord) : (pushOfq out s).oyq = s.oyq := rfl
@[simp] theorem pushOfq_ofq (out : List FrameRecord) : (pushOfq out s).ofq = s.ofq ++ out := rfl
@[simp] theorem pushOfq_osq (out : List FrameRecord) : (pushOfq out s).osq = s.osq := rfl
@[simp] theorem pushOfq_frd (out : List FrameRecord) : (pushOfq out s).frd = s.frd := rfl
@[simp] theorem pushOfq_par (out : List FrameRecord) : (pushOfq out s).par = s.par := rfl
@[simp] theorem pushOfq_bus (out : List FrameRecord) : (pushOfq out s).bus = s.bus := rfl
@[simp] theorem pushOfq_readData (out : List FrameRecord) : (pushOfq out s).readData = s.readData := rfl
@[simp] theorem pushOfq_resets (out : List FrameRecord) : (pushOfq out s).resets = s.resets := rfl

/-! ### pushOsq -/

@[simp] theorem pushOsq_crc (out : List Sample) : (pushOsq out s).crc = s.crc := rfl
@[simp] theorem pushOsq_scnt (out : List Sample) : (pushOsq out s).scnt = s.scnt := rfl
@[simp] theorem pushOsq_dcnt (out : List Sample) : (pushOsq out s).dcnt = s.dcnt := rfl
@[simp] theorem pushOsq_elvl (out : List Sample) : (pushOsq out s).elvl = s.elvl := rfl
@[simp] theorem pushOsq_dprv (out : List Sample) : (pushOsq out s).dprv = s.dprv := rfl
@[simp] theorem pushOsq_psr (out : List Sample) : (pushOsq out s).psr = s.psr := rfl
@[simp] theorem pushOsq_pcnt (out : List Sample) : (pushOsq out s).pcnt = s.pcnt := rfl
@[simp] theorem pushOsq_xst (out : List Sample) : (pushOsq out s).xst = s.xst := rfl
@[simp] theorem pushOsq_xovl (out : List Sample) : (pushOsq out s).xovl = s.xovl := rfl
@[simp] theorem pushOsq_flen (out : List Sample) : (pushOsq out s).flen = s.flen := rfl
@[simp] theorem pushOsq_facc (out : List Sample) : (pushOsq out s).facc = s.facc := rfl
@[simp] theorem pushOsq_dl (out : List Sample) : (pushOsq out s).dl = s.dl := rfl
@[simp] theorem pushOsq_acc (out : List Sample) : (pushOsq out s).acc = s.acc := rfl
@[simp] theorem pushOsq_preambleLen (out : List Sample) : (pushOsq out s).preambleLen = s.preambleLen := rfl
@[simp] theorem pushOsq_sps (out : List Sample) : (pushOsq out s).sps = s.sps := rfl
@[simp] theorem pushOsq_phinc (out : List Sample) : (pushOsq out s).phinc = s.phinc := rfl
@[simp] theorem pushOsq_wakeLen (out : List Sample) : (pushOsq out s).wakeLen = s.wakeLen := rfl
@[simp] theorem pushOsq_wakePhinc (out : List Sample) : (pushOsq out s).wakePhinc = s.wakePhinc := rfl
@[simp] theorem pushOsq_bufLen (out : List Sample) : (pushOsq out s).bufLen = s.bufLen := rfl
@[simp] theorem pushOsq_fit (out : List Sample) : (pushOsq out s).fit = s.fit := rfl
@[simp] theorem pushOsq_caddr (out : List Sample) : (pushOsq out s).caddr = s.caddr := rfl
@[simp] theorem pushOsq_err (out : List Sample) : (pushOsq out s).err = s.err := rfl
@[simp] theorem pushOsq_errcmd (out : List Sample) : (pushOsq out s).errcmd = s.errcmd := rfl
@[simp] theorem pushOsq_coef (out : List Sample) : (pushOsq out s).coef = s.coef := rfl
@[simp] theorem pushOsq_pbuf (out : List Sample) : (pushOsq out s).pbuf = s.pbuf := rfl
@[simp] theorem pushOsq_obq (out : List Sample) : (pushOsq out s).obq = s.obq := rfl
@[simp] theorem pushOsq_oyq (out : List Sample) : (pushOsq out s).oyq = s.oyq := rfl
@[simp] theorem pushOsq_ofq (out : List Sample) : (pushOsq out s).ofq = s.ofq := rfl
@[simp] theorem pushOsq_osq (out : List Sample) : (pushOsq out s).osq = s.osq ++ out := rfl
@[simp] theorem pushOsq_frd (out : List Sample) : (pushOsq out s).frd = s.frd := rfl
@[simp] theorem pushOsq_par (out : List Sample) : (pushOsq out s).par = s.par := rfl
@[simp] theorem pushOsq_bus (out : List Sample) : (pushOsq out s).bus = s.bus := rfl
@[simp] theorem pushOsq_readData (out : List Sample) : (pushOsq out s).readData = s.readData := rfl
@[simp] theorem pushOsq_resets (out : List Sample) : (pushOsq out s).resets = s.resets := rfl

/-! ### setExtract -/

@[simp] theorem setExtract_crc (x : ExtractUnit) : (setExtract x s).crc = s.crc := rfl
@[simp] theorem setExtract_scnt (x : ExtractUnit) : (setExtract x s).scnt = s.scnt := rfl
@[simp] theorem setExtract_dcnt (x : ExtractUnit) : (setExtract x s).dcnt = s.dcnt := rfl
@[simp] theorem setExtract_elvl (x : ExtractUnit) : (setExtract x s).elvl = s.elvl := rfl
@[simp] theorem setExtract_dprv (x : ExtractUnit) : (setExtract x s).dprv = s.dprv := rfl
@[simp] theorem setExtract_psr (x : ExtractUnit) : (setExtract x s).psr = s.psr := rfl
@[simp] theorem setExtract_pcnt (x : ExtractUnit) : (setExtract x s).pcnt = s.pcnt := rfl
@[simp] theorem setExtract_xst (x : ExtractUnit) : (setExtract x s).xst = x.st := rfl
@[simp] theorem setExtract_xovl (x : ExtractUnit) : (setExtract x s).xovl = x.ovl := rfl
@[simp] theorem setExtract_flen (x : ExtractUnit) : (setExtract x s).flen = BitVec.ofNat 16 x.acc.length := rfl
@[simp] theorem setExtract_facc (x : ExtractUnit) : (setExtract x s).facc = x.acc := rfl
@[simp] theorem setExtract_dl (x : ExtractUnit) : (setExtract x s).dl = s.dl := rfl
@[simp] theorem setExtract_acc (x : ExtractUnit) : (setExtract x s).acc = s.acc := rfl
@[simp] theorem setExtract_preambleLen (x : ExtractUnit) : (setExtract x s).preambleLen = s.preambleLen := rfl
@[simp] theorem setExtract_sps (x : ExtractUnit) : (setExtract x s).sps = s.sps := rfl
@[simp] theorem setExtract_phinc (x : ExtractUnit) : (setExtract x s).phinc = s.phinc := rfl
@[simp] theorem setExtract_wakeLen (x : ExtractUnit) : (setExtract x s).wakeLen = s.wakeLen := rfl
@[simp] theorem setExtract_wakePhinc (x : ExtractUnit) : (setExtract x s).wakePhinc = s.wakePhinc := rfl
@[simp] theorem setExtract_bufLen (x : ExtractUnit) : (setExtract x s).bufLen = s.bufLen := rfl
@[simp] theorem setExtract_fit (x : ExtractUnit) : (setExtract x s).fit = s.fit := rfl
@[simp] theorem setExtract_caddr (x : ExtractUnit) : (setExtract x s).caddr = s.caddr := rfl
@[simp] theorem setExtract_err (x : ExtractUnit) : (setExtract x s).err = s.err := rfl
@[simp] theorem setExtract_errcmd (x : ExtractUnit) : (setExtract x s).errcmd = s.errcmd := rfl
@[simp] theorem setExtract_coef (x : ExtractUnit) : (setExtract x s).coef = s.coef := rfl
@[simp] theorem setExtract_pbuf (x : ExtractUnit) : (setExtract x s).pbuf = s.pbuf := rfl
@[simp] theorem setExtract_obq (x : ExtractUnit) : (setExtract x s).obq = s.obq := rfl
@[simp] theorem setExtract_oyq (x : ExtractUnit) : (setExtract x s).oyq = s.oyq := rfl
@[simp] theorem setExtract_ofq (x : ExtractUnit) : (setExtract x s).ofq = s.ofq := rfl
@[simp] theorem setExtract_osq (x : ExtractUnit) : (setExtract x s).osq = s.osq := rfl
@[simp] theorem setExtract_frd (x : ExtractUnit) : (setExtract x s).frd = s.frd := rfl
@[simp] theorem setExtract_par (x : ExtractUnit) : (setExtract x s).par = s.par := rfl
@[simp] theorem setExtract_bus (x : ExtractUnit) : (setExtract x s).bus = s.bus := rfl
@[simp] theorem setExtract_readData (x : ExtractUnit) : (setExtract x s).readData = s.readData := rfl
@[simp] theorem setExtract_resets (x : ExtractUnit) : (setExtract x s).resets = s.resets := rfl

/-! ### setRx -/

@[simp] theorem setRx_crc (x : RxUnit) : (setRx x s).crc = s.crc := rfl
@[simp] theorem setRx_scnt (x : RxUnit) : (setRx x s).scnt = s.scnt := rfl
@[simp] theorem setRx_dcnt (x : RxUnit) : (setRx x s).dcnt = x.dcnt := rfl
@[simp] theorem setRx_elvl (x : RxUnit) : (setRx x s).elvl = s.elvl := rfl
@[simp] theorem setRx_dprv (x : RxUnit) : (setRx x s).dprv = x.dprv := rfl
@[simp] theorem setRx_psr (x : RxUnit) : (setRx x s).psr = x.psr := rfl
@[simp] theorem setRx_pcnt (x : RxUnit) : (setRx x s).pcnt = x.pcnt := rfl
@[simp] theorem setRx_xst (x : RxUnit) : (setRx x s).xst = x.ext.st := rfl
@[simp] theorem setRx_xovl (x : RxUnit) : (setRx x s).xovl = x.ext.ovl := rfl
@[simp] theorem setRx_flen (x : RxUnit) : (setRx x s).flen = BitVec.ofNat 16 x.ext.acc.length := rfl
@[simp] theorem setRx_facc (x : RxUnit) : (setRx x s).facc = x.ext.acc := rfl
@[simp] theorem setRx_dl (x : RxUnit) : (setRx x s).dl = s.dl := rfl
@[simp] theorem setRx_acc (x : RxUnit) : (setRx x s).acc = s.acc := rfl
@[simp] theorem setRx_preambleLen (x : RxUnit) : (setRx x s).preambleLen = s.preambleLen := rfl
@[simp] theorem setRx_sps (x : RxUnit) : (setRx x s).sps = s.sps := rfl
@[simp] theorem setRx_phinc (x : RxUnit) : (setRx x s).phinc = s.phinc := rfl
@[simp] theorem setRx_wakeLen (x : RxUnit) : (setRx x s).wakeLen = s.wakeLen := rfl
@[simp] theorem setRx_wakePhinc (x : RxUnit) : (setRx x s).wakePhinc = s.wakePhinc := rfl
@[simp] theorem setRx_bufLen (x : RxUnit) : (setRx x s).bufLen = s.bufLen := rfl
@[simp] theorem setRx_fit (x : RxUnit) : (setRx x s).fit = s.fit := rfl
@[simp] theorem setRx_caddr (x : RxUnit) : (setRx x s).caddr = s.caddr := rfl
@[simp] theorem setRx_err (x : RxUnit) : (setRx x s).err = s.err := rfl
@[simp] theorem setRx_errcmd (x : RxUnit) : (setRx x s).errcmd = s.errcmd := rfl
@[simp] theorem setRx_coef (x : RxUnit) : (setRx x s).coef = s.coef := rfl
@[simp] theorem setRx_pbuf (x : RxUnit) : (setRx x s).pbuf = s.pbuf := rfl
@[simp] theorem setRx_obq (x : RxUnit) : (setRx x s).obq = s.obq := rfl
@[simp] theorem setRx_oyq (x : RxUnit) : (setRx x s).oyq = s.oyq := rfl
@[simp] theorem setRx_ofq (x : RxUnit) : (setRx x s).ofq = s.ofq := rfl
@[simp] theorem setRx_osq (x : RxUnit) : (setRx x s).osq = s.osq := rfl
@[simp] theorem setRx_frd (x : RxUnit) : (setRx x s).frd = s.frd := rfl
@[simp] theorem setRx_par (x : RxUnit) : (setRx x s).par = s.par := rfl
@[simp] theorem setRx_bus (x : RxUnit) : (setRx x s).bus = s.bus := rfl
@[simp] theorem setRx_readData (x : RxUnit) : (setRx x s).readData = s.readData := rfl
@[simp] theorem setRx_resets (x : RxUnit) : (setRx x s).resets = s.resets := rfl

/-! ### accept -/

@[simp] theorem accept_crc (rest : List Access) : (accept rest s).crc = s.crc := rfl
@[simp] theorem accept_scnt (rest : List Access) : (accept rest s).scnt = s.scnt := rfl
@[simp] theorem accept_dcnt (rest : List Access) : (accept rest s).dcnt = s.dcnt := rfl
@[simp] theorem accept_elvl (rest : List Access) : (accept rest s).elvl = s.elvl := rfl
@[simp] theorem accept_dprv (rest : List Access) : (accept rest s).dprv = s.dprv := rfl
@[simp] theorem accept_psr (rest : List Access) : (accept rest s).psr = s.psr := rfl
@[simp] theorem accept_pcnt (rest : List Access) : (accept rest s).pcnt = s.pcnt := rfl
@[simp] theorem accept_xst (rest : List Access) : (accept rest s).xst = s.xst := rfl
@[simp] theorem accept_xovl (rest : List Access) : (accept rest s).xovl = s.xovl := rfl
@[simp] theorem accept_flen (rest : List Access) : (accept rest s).flen = s.flen := rfl
@[simp] theorem accept_facc (rest : List Access) : (accept rest s).facc = s.facc := rfl
@[simp] theorem accept_dl (rest : List Access) : (accept rest s).dl = s.dl := rfl
@[simp] theorem accept_acc (rest : List Access) : (accept rest s).acc = s.acc := rfl
@[simp] theorem accept_preambleLen (rest : List Access) : (accept rest s).preambleLen = s.preambleLen := rfl
@[simp] theorem accept_sps (rest : List Access) : (accept rest s).sps = s.sps := rfl
@[simp] theorem accept_phinc (rest : List Access) : (accept rest s).phinc = s.phinc := rfl
@[simp] theorem accept_wakeLen (rest : List Access) : (accept rest s).wakeLen = s.wakeLen := rfl
@[simp] theorem accept_wakePhinc (rest : List Access) : (accept rest s).wakePhinc = s.wakePhinc := rfl
@[simp] theorem accept_bufLen (rest : List Access) : (accept rest s).bufLen = s.bufLen := rfl
@[simp] theorem accept_fit (rest : List Access) : (accept rest s).fit = s.fit := rfl
@[simp] theorem accept_caddr (rest : List Access) : (accept rest s).caddr = s.caddr := rfl
@[simp] theorem accept_err (rest : List Access) : (accept rest s).err = s.err := rfl
@[simp] theorem accept_errcmd (rest : List Access) : (accept rest s).errcmd = s.errcmd := rfl
@[simp] theorem accept_coef (rest : List Access) : (accept rest s).coef = s.coef := rfl
@[simp] theorem accept_pbuf (rest : List Access) : (accept rest s).pbuf = s.pbuf := rfl
@[simp] theorem accept_obq (rest : List Access) : (accept rest s).obq = s.obq := rfl
@[simp] theorem accept_oyq (rest : List Access) : (accept rest s).oyq = s.oyq := rfl
@[simp] theorem accept_ofq (rest : List Access) : (accept rest s).ofq = s.ofq := rfl
@[simp] theorem accept_osq (rest : List Access) : (accept rest s).osq = s.osq := rfl
@[simp] theorem accept_frd (rest : List Access) : (accept rest s).frd = s.frd := rfl
@[simp] theorem accept_par (rest : List Access) : (accept rest s).par = s.par := rfl
@[simp] theorem accept_bus (rest : List Access) : (accept rest s).bus = rest := rfl
@[simp] theorem accept_readData (rest : List Access) : (accept rest s).readData = none := rfl
@[simp] theorem accept_resets (rest : List Access) : (accept rest s).resets = s.resets := rfl

end Sys2Proof.Machine
end

