-- ==== Sys2Proof/Laws/Coef.lean ====
section
/-! SUPPORT. The coefficient RAM: a read after a write to the same index gives the value written, a write leaves every
other index alone, and every operation keeps the canonical form. -/

namespace Sys2Proof.Machine

@[simp] theorem coefFind_insert_same (k : Nat) (x : BitVec 25) (ram : CoefRam) :
    coefFind k (coefInsert k x ram) = some x := by
  induction ram with
  | nil => simp [coefInsert, coefFind]
  | cons e rest ih =>
    obtain ⟨j, y⟩ := e
    unfold coefInsert
    split
    · simp [coefFind]
    · split
      · simp [coefFind]
      · rename_i hne
        simp [coefFind, Ne.symm hne, ih]

theorem coefFind_insert_other (k j : Nat) (x : BitVec 25) (ram : CoefRam) (h : j ≠ k) :
    coefFind j (coefInsert k x ram) = coefFind j ram := by
  induction ram with
  | nil => simp [coefInsert, coefFind, Ne.symm h]
  | cons e rest ih =>
    obtain ⟨i, y⟩ := e
    unfold coefInsert
    split
    · simp [coefFind, Ne.symm h]
    · split
      · rename_i hki
        subst hki
        simp [coefFind, Ne.symm h]
      · simp [coefFind, ih]

/-- A write keeps the canonical form above a bound the written index respects. -/
theorem coefInsert_wfFrom (low k : Nat) (x : BitVec 25) (ram : CoefRam) (hlow : low ≤ k) (hk : k < Config.coefDepth)
    (h : coefWfFrom low ram = true) : coefWfFrom low (coefInsert k x ram) = true := by
  induction ram generalizing low with
  | nil => simp [coefInsert, coefWfFrom, hlow, hk]
  | cons e rest ih =>
    obtain ⟨j, y⟩ := e
    simp only [coefWfFrom, Bool.and_eq_true, decide_eq_true_eq] at h
    unfold coefInsert
    split
    · rename_i hkj
      simp only [coefWfFrom, Bool.and_eq_true, decide_eq_true_eq]
      exact ⟨⟨hlow, hk⟩, ⟨hkj, h.1.2⟩, h.2⟩
    · split
      · rename_i hkj
        subst hkj
        simp only [coefWfFrom, Bool.and_eq_true, decide_eq_true_eq]
        exact ⟨⟨hlow, hk⟩, h.2⟩
      · rename_i h1 h2
        simp only [coefWfFrom, Bool.and_eq_true, decide_eq_true_eq]
        exact ⟨h.1, ih (j + 1) (by omega) h.2⟩

theorem coefInsert_wf (k : Nat) (x : BitVec 25) (ram : CoefRam) (hk : k < Config.coefDepth) (h : coefWf ram = true) :
    coefWf (coefInsert k x ram) = true := coefInsert_wfFrom 0 k x ram (Nat.zero_le k) hk h

/-- The RAM right after a hardware reset is in canonical form. -/
theorem resetWith_coef_wf (p : Params) (n : Nat) : coefWf (State.resetWith p n).coef = true := rfl

/-- Everything a write to COEF_DATA can do (45_system_and_queues.md R181). -/
theorem coefWrite_cases (v : Word) (s : State) :
    (Config.coefDepth ≤ s.caddr.toNat ∧ coefWrite v s = raiseAccess .regacc s) ∨
    (s.caddr.toNat < Config.coefDepth ∧ coefWrite v s =
      { s with coef := coefInsert s.caddr.toNat (v.setWidth 25) s.coef, caddr := s.caddr + 1 }) := by
  by_cases h : Config.coefDepth ≤ s.caddr.toNat
  · exact .inl ⟨h, by simp [coefWrite, h]⟩
  · exact .inr ⟨Nat.lt_of_not_le h, by simp [coefWrite, h]⟩

/-- A write to COEF_DATA keeps the canonical form. -/
theorem coefWrite_wf (v : Word) (s : State) (h : coefWf s.coef = true) : coefWf (coefWrite v s).coef = true := by
  rcases coefWrite_cases v s with ⟨-, e⟩ | ⟨hk, e⟩ <;> rw [e]
  · exact h
  · exact coefInsert_wf _ _ _ hk h

end Sys2Proof.Machine
end

