-- ==== Sys2Proof/Laws/Ops.lean ====
section
/-! SUPPORT. For each shared operation what it can do, said once: guarded commits, queue capacity and emission, appending
to the payload buffer, folds, the modulator command, one level through the receive chain and the delivery of a frame. -/

namespace Sys2Proof.Machine

open Sys2Proof.Safety

/-! ### Guarded commits -/

@[simp] theorem commitIf_true (k : ErrKind) (w : Word) (s t : State) : commitIf true k w s t = t := rfl

@[simp] theorem commitIf_false (k : ErrKind) (w : Word) (s t : State) : commitIf false k w s t = raiseCmd k w s := rfl

/-- A guarded command either has its whole effect or records its error on the unchanged state. -/
theorem commitIf_cases (ok : Bool) (k : ErrKind) (w : Word) (s t : State) :
    (ok = true ∧ commitIf ok k w s t = t) ∨ (ok = false ∧ commitIf ok k w s t = raiseCmd k w s) := by
  cases ok <;> simp

/-! ### Queue capacity -/

@[simp] theorem fits_zero (d : Option Nat) (c : Nat) : fits d c 0 = true := by
  cases d <;> simp [fits, free]

/-- For a nonempty output the test of a command is whether there is room. -/
theorem fits_eq_room (d : Option Nat) (c n : Nat) (h : 0 < n) : fits d c n = room d c n := by
  cases d with
  | none => rfl
  | some k => simp only [fits, free, room, Option.map_some]; congr 1; apply propext; omega

theorem fits_of_room (d : Option Nat) (c n : Nat) (h : room d c n = true) : fits d c n = true := by
  rcases Nat.eq_zero_or_pos n with rfl | hn
  · exact fits_zero d c
  · rw [fits_eq_room d c n hn, h]

/-! ### Emission -/

theorem emitObq_of_room (w : Word) (out : Bits) (s t : State)
    (h : room s.par.obqDepth s.obq.length out.length = true) : emitObq w out s t = pushObq out t := by
  simp [emitObq, fitsObq, fits_of_room _ _ _ h]

theorem emitObq_of_full (w : Word) (out : Bits) (s t : State) (hn : 0 < out.length)
    (h : room s.par.obqDepth s.obq.length out.length = false) : emitObq w out s t = raiseCmd .qfull w s := by
  simp [emitObq, fitsObq, fits_eq_room _ _ _ hn, h]

theorem emitOyq_of_room (w : Word) (out : List Byte) (s t : State)
    (h : room s.par.oyqDepth s.oyq.length out.length = true) : emitOyq w out s t = pushOyq out t := by
  simp [emitOyq, fitsOyq, fits_of_room _ _ _ h]

theorem emitOyq_of_full (w : Word) (out : List Byte) (s t : State) (hn : 0 < out.length)
    (h : room s.par.oyqDepth s.oyq.length out.length = false) : emitOyq w out s t = raiseCmd .qfull w s := by
  simp [emitOyq, fitsOyq, fits_eq_room _ _ _ hn, h]

theorem emitOfq_of_room (w : Word) (out : List FrameRecord) (s t : State)
    (h : room s.par.ofqDepth s.ofq.length out.length = true) : emitOfq w out s t = pushOfq out t := by
  simp [emitOfq, fitsOfq, fits_of_room _ _ _ h]

theorem emitOfq_of_full (w : Word) (out : List FrameRecord) (s t : State) (hn : 0 < out.length)
    (h : room s.par.ofqDepth s.ofq.length out.length = false) : emitOfq w out s t = raiseCmd .qfull w s := by
  simp [emitOfq, fitsOfq, fits_eq_room _ _ _ hn, h]

theorem emitOsq_of_room (w : Word) (out : List Sample) (s t : State)
    (h : room s.par.osqDepth s.osq.length out.length = true) : emitOsq w out s t = pushOsq out t := by
  simp [emitOsq, fitsOsq, fits_of_room _ _ _ h]

theorem emitOsq_of_full (w : Word) (out : List Sample) (s t : State) (hn : 0 < out.length)
    (h : room s.par.osqDepth s.osq.length out.length = false) : emitOsq w out s t = raiseCmd .qfull w s := by
  simp [emitOsq, fitsOsq, fits_eq_room _ _ _ hn, h]

/-- Everything an emission of bits can do. -/
theorem emitObq_cases (w : Word) (out : Bits) (s t : State) :
    emitObq w out s t = pushObq out t ∨ emitObq w out s t = raiseCmd .qfull w s :=
  (commitIf_cases _ _ _ _ _).imp And.right And.right

theorem emitOyq_cases (w : Word) (out : List Byte) (s t : State) :
    emitOyq w out s t = pushOyq out t ∨ emitOyq w out s t = raiseCmd .qfull w s :=
  (commitIf_cases _ _ _ _ _).imp And.right And.right

theorem emitOfq_cases (w : Word) (out : List FrameRecord) (s t : State) :
    emitOfq w out s t = pushOfq out t ∨ emitOfq w out s t = raiseCmd .qfull w s :=
  (commitIf_cases _ _ _ _ _).imp And.right And.right

theorem emitOsq_cases (w : Word) (out : List Sample) (s t : State) :
    emitOsq w out s t = pushOsq out t ∨ emitOsq w out s t = raiseCmd .qfull w s :=
  (commitIf_cases _ _ _ _ _).imp And.right And.right

/-- Everything an append to the payload buffer can do. -/
theorem appendPbuf_cases (w : Word) (bits : Bits) (s : State) :
    (s.pbuf.length + bits.length ≤ s.par.pbufMax ∧ appendPbuf w bits s = { s with pbuf := s.pbuf ++ bits }) ∨
    (s.par.pbufMax < s.pbuf.length + bits.length ∧ appendPbuf w bits s = raiseCmd .pbfull w s) := by
  rcases Nat.lt_or_ge s.par.pbufMax (s.pbuf.length + bits.length) with h | h
  · exact .inr ⟨h, by simp [appendPbuf, Nat.not_le.mpr h]⟩
  · exact .inl ⟨h, by simp [appendPbuf, h]⟩

/-! ### Folds -/

section Folds

variable {σ α β : Type} (f : σ → α → σ × List β)

@[simp] theorem run_nil (s : σ) : run f s [] = (s, []) := rfl

@[simp] theorem run_cons (s : σ) (a : α) (rest : List α) :
    run f s (a :: rest) = ((run f (f s a).1 rest).1, (f s a).2 ++ (run f (f s a).1 rest).2) := rfl

/-- A run over a concatenation is the run over the first part and then, from where it ended, over the second. -/
theorem run_append (s : σ) (xs ys : List α) :
    run f s (xs ++ ys) = ((run f (run f s xs).1 ys).1, (run f s xs).2 ++ (run f (run f s xs).1 ys).2) := by
  induction xs generalizing s with
  | nil => simp
  | cons a rest ih => simp [ih, List.append_assoc]

/-- A step that puts out one symbol for each input gives a run whose output is as long as its input. -/
theorem run_length_one (h : ∀ s a, (f s a).2.length = 1) (s : σ) (xs : List α) :
    (run f s xs).2.length = xs.length := by
  induction xs generalizing s with
  | nil => rfl
  | cons a rest ih => simp [ih, h]; omega

/-- What every step keeps, a run keeps. -/
theorem run_invariant (P : σ → Prop) (h : ∀ s a, P s → P (f s a).1) (s : σ) (xs : List α) (hs : P s) :
    P (run f s xs).1 := by
  induction xs generalizing s with
  | nil => exact hs
  | cons a rest ih => exact ih _ (h s a hs)

end Folds

/-! ### The modulator -/

@[simp] theorem modRun_length (s : State) (m : ModUnit) (us : List Tap) : (modRun s m us).2.length = us.length :=
  run_length_one _ (fun _ _ => rfl) m us

@[simp] theorem toneRun_length (s : State) (acc : BitVec 56) (n : Nat) : (toneRun s acc n).2.length = n := by
  simpa [toneRun] using run_length_one (toneSample s.wakePhinc s.par.lut) (fun _ _ => rfl) acc (List.replicate n ())

/-- A modulator run keeps the length of a full delay line. -/
theorem modRun_dl_length (s : State) (m : ModUnit) (us : List Tap) (h : m.dl.length = Config.dlLen) :
    (modRun s m us).1.dl.length = Config.dlLen :=
  run_invariant _ (fun m => m.dl.length = Config.dlLen)
    (fun m u hm => by simp only [modSample, firSample, List.length_take, List.length_cons]; omega) m us h

/-- A modulator run over a concatenation goes on from where the first part ended. -/
theorem modRun_append (s : State) (m : ModUnit) (us vs : List Tap) :
    modRun s m (us ++ vs) =
      ((modRun s (modRun s m us).1 vs).1, (modRun s m us).2 ++ (modRun s (modRun s m us).1 vs).2) :=
  run_append _ m us vs

/-- A modulator run shifts its inputs into the delay line, the latest first. -/
theorem modRun_dl (s : State) (m : ModUnit) (us : List Tap) (h : m.dl.length = Config.dlLen) :
    (modRun s m us).1.dl = (us.reverse ++ m.dl).take Config.dlLen := by
  induction us generalizing m with
  | nil => simp [modRun, ← h]
  | cons u rest ih =>
    have hl : ((u :: m.dl).take Config.dlLen).length = Config.dlLen := by
      rw [List.length_take, List.length_cons, h]; rfl
    rw [show modRun s m (u :: rest) = modRun s m ([u] ++ rest) from rfl, modRun_append]
    refine (ih _ hl).trans ?_
    simp only [List.reverse_cons, List.append_assoc, List.singleton_append, List.take_append]
    congr 1
    change List.take _ (List.take _ _) = _
    rw [List.take_take]
    congr 1
    omega

/-- Everything a modulator command can do, the tests in the order of 60_exceptions.md R200. -/
theorem modCommand_cases (w : Word) (us : List Tap) (s : State) :
    (spsLegal s = false ∧ modCommand w us s = raiseCmd .cfg w s) ∨
    (spsLegal s = true ∧ fitsOsq s us.length = false ∧ modCommand w us s = raiseCmd .qfull w s) ∨
    (spsLegal s = true ∧ fitsOsq s us.length = true ∧
      modCommand w us s =
        pushOsq (modRun s (modUnit s) us).2
          { s with dl := (modRun s (modUnit s) us).1.dl, acc := (modRun s (modUnit s) us).1.acc }) := by
  cases h : spsLegal s
  · exact .inl ⟨rfl, by simp [modCommand, h]⟩
  · cases hf : fitsOsq s us.length
    · exact .inr (.inl ⟨rfl, rfl, by simp [modCommand, h, hf]⟩)
    · exact .inr (.inr ⟨rfl, rfl, by simp [modCommand, h, hf]⟩)

/-! ### The extractor -/

/-- Everything one byte can do to the extractor (44_frame_extractor.md R153). -/
theorem extractStep_cases (fm : Nat) (x : ExtractUnit) (v : Byte) :
    (v = flagByte ∧ (extractStep fm x v).unit = ⟨.inFrame, [], false⟩) ∨
    (v ≠ flagByte ∧ (extractStep fm x v).out = none ∧ (extractStep fm x v).drop = false ∧
      ((x.st = .searching ∧ (extractStep fm x v).unit = extractStart) ∨
       (x.st = .inFrame ∧ x.acc.length < fm ∧ (extractStep fm x v).unit = ⟨.inFrame, x.acc ++ [v], x.ovl⟩) ∨
       (x.st = .inFrame ∧ fm ≤ x.acc.length ∧ (extractStep fm x v).unit = ⟨.inFrame, x.acc, true⟩))) := by
  by_cases hv : v = flagByte
  · exact .inl ⟨hv, by simp [extractStep, hv]⟩
  · refine .inr ⟨hv, ?_⟩
    cases hs : x.st with
    | searching => exact ⟨by simp [extractStep, hv, hs], by simp [extractStep, hv, hs],
        .inl ⟨rfl, by simp [extractStep, hv, hs, extractStart]⟩⟩
    | inFrame =>
      by_cases hl : x.acc.length < fm
      · exact ⟨by simp [extractStep, hv, hs, hl], by simp [extractStep, hv, hs, hl],
          .inr (.inl ⟨rfl, hl, by simp [extractStep, hv, hs, hl]⟩)⟩
      · exact ⟨by simp [extractStep, hv, hs, hl], by simp [extractStep, hv, hs, hl],
          .inr (.inr ⟨rfl, Nat.le_of_not_lt hl, by simp [extractStep, hv, hs, hl]⟩)⟩

/-- An emitted frame is what had been accumulated, longer than 2 bytes, not overlong, and the byte was the flag. -/
theorem extractStep_out (fm : Nat) (x : ExtractUnit) (v : Byte) (fr : List Byte)
    (h : (extractStep fm x v).out = some fr) :
    v = flagByte ∧ x.st = .inFrame ∧ x.ovl = false ∧ 2 < x.acc.length ∧ fr = x.acc := by
  rcases extractStep_cases fm x v with ⟨hv, -⟩ | ⟨-, ho, -⟩
  · by_cases hc : x.st = .inFrame ∧ x.ovl = false ∧ 2 < x.acc.length
    · simp only [extractStep, hv, if_true, if_pos hc, Option.some.injEq] at h
      exact ⟨hv, hc.1, hc.2.1, hc.2.2, h.symm⟩
    · simp [extractStep, hv, if_neg hc] at h
  · simp [ho] at h

/-- Everything one level can do to the receive chain (44_frame_extractor.md R160). -/
theorem rxStep_cases (fm : Nat) (x : RxUnit) (v : Byte) (d : BitVec 3 × Bits)
    (p : Bool → (BitVec 8 × BitVec 3) × List Byte) (e : Byte → ExtractResult)
    (hd : d = destuffStep x.dcnt (decide (x.dprv = levelOf v))) (hp : p = packStep (x.psr, x.pcnt))
    (he : e = extractStep fm x.ext) :
    (d.2 = [] ∧ rxStep fm x v = ⟨{ x with dprv := levelOf v, dcnt := d.1 }, none, false⟩) ∨
    (∃ b, d.2 = [b] ∧ (p b).2 = [] ∧ rxStep fm x v =
      ⟨{ x with dprv := levelOf v, dcnt := d.1, psr := (p b).1.1, pcnt := (p b).1.2 }, none, false⟩) ∨
    (∃ b y, d.2 = [b] ∧ (p b).2 = [y] ∧ rxStep fm x v =
      ⟨⟨levelOf v, d.1, (p b).1.1, (p b).1.2, (e y).unit⟩, (e y).out, (e y).drop⟩) := by
  subst hd hp he
  have hb : (nrziDecStep x.dprv (levelOf v)).2.headD false = decide (x.dprv = levelOf v) := by
    simp only [nrziDecStep, List.headD_cons]
    cases x.dprv <;> cases levelOf v <;> rfl
  have hdl : ∀ c b, (destuffStep c b).2 = [] ∨ ∃ b', (destuffStep c b).2 = [b'] := by
    intro c b; unfold destuffStep; split_ifs <;> simp
  have hpl : ∀ q b, (packStep q b).2 = [] ∨ ∃ y, (packStep q b).2 = [y] := by
    intro q b; unfold packStep; dsimp only; split <;> simp
  have hn : (nrziDecStep x.dprv (levelOf v)).1 = levelOf v := rfl
  rcases hdl x.dcnt (decide (x.dprv = levelOf v)) with h | ⟨b, h⟩
  · exact .inl ⟨h, by simp only [rxStep, hb, h, hn]⟩
  · rcases hpl (x.psr, x.pcnt) b with h2 | ⟨y, h2⟩
    · exact .inr (.inl ⟨b, h, h2, by simp only [rxStep, hb, h, h2, hn]⟩)
    · exact .inr (.inr ⟨b, y, h, h2, by simp only [rxStep, hb, h, h2, hn]⟩)

/-- Everything the delivery of a frame can do (44_frame_extractor.md R156, R161). -/
theorem deliverFrame_cases (w : Word) (out : Option (List Byte)) (drop : Bool) (s t : State) :
    deliverFrame w out drop s t = raiseCmd .qfull w s ∨
    deliverFrame w out drop s t =
      pushOfq (out.toList.map recordOf) (if drop then setEvent .fovf t else t) :=
  (emitOfq_cases _ _ _ _).symm

end Sys2Proof.Machine
end

