-- ==== Sys2Proof/Laws/PerInstr.lean ====
section
/-! SUPPORT. Per-instruction family RowOfTable: the word of a well-formed command is selected by the row of
30_encoding.md R63 that has its mnemonic. One lemma per constructor. -/

namespace Sys2Proof.Laws.RowOfTable

/-- The command's word is selected by its own row of the table of R63. -/
def Statement (i : Instr) : Prop :=
  i.WellFormed → ∃ r ∈ opcodeTable, r.mnemonic = i.mnemonic ∧ r.selects (encode i) = true

/-- A word selects the row of its opcode when its argument has no bit in the row's reserved bits. -/
theorem selects_mkWord (opc : BitVec 8) (arg zeros : BitVec 24) (name : String) (h : arg &&& zeros = 0) :
    (OpRow.mk name (0xFF#8 ++ zeros) (opc ++ 0#24)).selects (mkWord opc arg) = true := by
  have hx : (opc ++ arg) &&& (0xFF#8 ++ zeros) = opc ++ (arg &&& zeros) := by
    apply BitVec.eq_of_getLsbD_eq
    intro i hi
    have hff : ∀ j < 8, (0xFF#8).getLsbD j = true := by decide
    rw [BitVec.getLsbD_and, BitVec.getLsbD_append, BitVec.getLsbD_append, BitVec.getLsbD_append]
    by_cases hlt : i < 24
    · simp [hlt]
    · simp [hlt, hff (i - 24) (by omega)]
  simp only [OpRow.selects, mkWord, beq_iff_eq]
  rw [hx, h]
  rfl

theorem argB_zeros (b : Bool) : argB b &&& 0xFFFFFE = 0 := by cases b <;> rfl

theorem argY_zeros (v : Byte) : argY v &&& 0xFFFF00 = 0 := by revert v; decide

theorem argM_zeros (m : BitVec 4) : argM m &&& 0xFFFFF0 = 0 := by revert m; decide

theorem argN_zeros (n : Nat) : argN n &&& 0 = 0 := by simp

theorem nop : Statement (.nop) := fun _ =>
  ⟨⟨"NOP", 0xFFFFFFFF, 0x00000000⟩, by decide, rfl, selects_mkWord 0x00 0 0xFFFFFF "NOP" (by simp)⟩

theorem srst : Statement (.srst) := fun _ =>
  ⟨⟨"SRST", 0xFFFFFFFF, 0x01000000⟩, by decide, rfl, selects_mkWord 0x01 0 0xFFFFFF "SRST" (by simp)⟩

theorem clrAll : Statement (.clrAll) := fun _ =>
  ⟨⟨"CLR.ALL", 0xFFFFFFFF, 0x02000000⟩, by decide, rfl, selects_mkWord 0x02 0 0xFFFFFF "CLR.ALL" (by simp)⟩

theorem qFlush (m : BitVec 4) : Statement (.qFlush m) := fun _ =>
  ⟨⟨"Q.FLUSH", 0xFFFFFFF0, 0x03000000⟩, by decide, rfl, selects_mkWord 0x03 (argM m) 0xFFFFF0 "Q.FLUSH" (argM_zeros m)⟩

theorem frqDrop : Statement (.frqDrop) := fun _ =>
  ⟨⟨"FRQ.DROP", 0xFFFFFFFF, 0x04000000⟩, by decide, rfl, selects_mkWord 0x04 0 0xFFFFFF "FRQ.DROP" (by simp)⟩

theorem crcClr : Statement (.crcClr) := fun _ =>
  ⟨⟨"CRC.CLR", 0xFFFFFFFF, 0x10000000⟩, by decide, rfl, selects_mkWord 0x10 0 0xFFFFFF "CRC.CLR" (by simp)⟩

theorem crcBit (b : Bool) : Statement (.crcBit b) := fun _ =>
  ⟨⟨"CRC.BIT", 0xFFFFFFFE, 0x11000000⟩, by decide, rfl, selects_mkWord 0x11 (argB b) 0xFFFFFE "CRC.BIT" (argB_zeros b)⟩

theorem crcByte (v : Byte) : Statement (.crcByte v) := fun _ =>
  ⟨⟨"CRC.BYTE", 0xFFFFFF00, 0x12000000⟩, by decide, rfl, selects_mkWord 0x12 (argY v) 0xFFFF00 "CRC.BYTE" (argY_zeros v)⟩

theorem crcEmit : Statement (.crcEmit) := fun _ =>
  ⟨⟨"CRC.EMIT", 0xFFFFFFFF, 0x13000000⟩, by decide, rfl, selects_mkWord 0x13 0 0xFFFFFF "CRC.EMIT" (by simp)⟩

theorem pbClr : Statement (.pbClr) := fun _ =>
  ⟨⟨"PB.CLR", 0xFFFFFFFF, 0x18000000⟩, by decide, rfl, selects_mkWord 0x18 0 0xFFFFFF "PB.CLR" (by simp)⟩

theorem pbBit (b : Bool) : Statement (.pbBit b) := fun _ =>
  ⟨⟨"PB.BIT", 0xFFFFFFFE, 0x19000000⟩, by decide, rfl, selects_mkWord 0x19 (argB b) 0xFFFFFE "PB.BIT" (argB_zeros b)⟩

theorem pbByte (v : Byte) : Statement (.pbByte v) := fun _ =>
  ⟨⟨"PB.BYTE", 0xFFFFFF00, 0x1A000000⟩, by decide, rfl, selects_mkWord 0x1A (argY v) 0xFFFF00 "PB.BYTE" (argY_zeros v)⟩

theorem stfClr : Statement (.stfClr) := fun _ =>
  ⟨⟨"STF.CLR", 0xFFFFFFFF, 0x20000000⟩, by decide, rfl, selects_mkWord 0x20 0 0xFFFFFF "STF.CLR" (by simp)⟩

theorem stfBit (b : Bool) : Statement (.stfBit b) := fun _ =>
  ⟨⟨"STF.BIT", 0xFFFFFFFE, 0x21000000⟩, by decide, rfl, selects_mkWord 0x21 (argB b) 0xFFFFFE "STF.BIT" (argB_zeros b)⟩

theorem dsfClr : Statement (.dsfClr) := fun _ =>
  ⟨⟨"DSF.CLR", 0xFFFFFFFF, 0x24000000⟩, by decide, rfl, selects_mkWord 0x24 0 0xFFFFFF "DSF.CLR" (by simp)⟩

theorem dsfBit (b : Bool) : Statement (.dsfBit b) := fun _ =>
  ⟨⟨"DSF.BIT", 0xFFFFFFFE, 0x25000000⟩, by decide, rfl, selects_mkWord 0x25 (argB b) 0xFFFFFE "DSF.BIT" (argB_zeros b)⟩

theorem nzeClr : Statement (.nzeClr) := fun _ =>
  ⟨⟨"NZE.CLR", 0xFFFFFFFF, 0x30000000⟩, by decide, rfl, selects_mkWord 0x30 0 0xFFFFFF "NZE.CLR" (by simp)⟩

theorem nzeBit (b : Bool) : Statement (.nzeBit b) := fun _ =>
  ⟨⟨"NZE.BIT", 0xFFFFFFFE, 0x31000000⟩, by decide, rfl, selects_mkWord 0x31 (argB b) 0xFFFFFE "NZE.BIT" (argB_zeros b)⟩

theorem nzdClr : Statement (.nzdClr) := fun _ =>
  ⟨⟨"NZD.CLR", 0xFFFFFFFF, 0x34000000⟩, by decide, rfl, selects_mkWord 0x34 0 0xFFFFFF "NZD.CLR" (by simp)⟩

theorem nzdLvl (v : Byte) : Statement (.nzdLvl v) := fun _ =>
  ⟨⟨"NZD.LVL", 0xFFFFFF00, 0x35000000⟩, by decide, rfl, selects_mkWord 0x35 (argY v) 0xFFFF00 "NZD.LVL" (argY_zeros v)⟩

theorem pckClr : Statement (.pckClr) := fun _ =>
  ⟨⟨"PCK.CLR", 0xFFFFFFFF, 0x40000000⟩, by decide, rfl, selects_mkWord 0x40 0 0xFFFFFF "PCK.CLR" (by simp)⟩

theorem pckBit (b : Bool) : Statement (.pckBit b) := fun _ =>
  ⟨⟨"PCK.BIT", 0xFFFFFFFE, 0x41000000⟩, by decide, rfl, selects_mkWord 0x41 (argB b) 0xFFFFFE "PCK.BIT" (argB_zeros b)⟩

theorem xtrClr : Statement (.xtrClr) := fun _ =>
  ⟨⟨"XTR.CLR", 0xFFFFFFFF, 0x44000000⟩, by decide, rfl, selects_mkWord 0x44 0 0xFFFFFF "XTR.CLR" (by simp)⟩

theorem xtrByte (v : Byte) : Statement (.xtrByte v) := fun _ =>
  ⟨⟨"XTR.BYTE", 0xFFFFFF00, 0x45000000⟩, by decide, rfl, selects_mkWord 0x45 (argY v) 0xFFFF00 "XTR.BYTE" (argY_zeros v)⟩

theorem modClr : Statement (.modClr) := fun _ =>
  ⟨⟨"MOD.CLR", 0xFFFFFFFF, 0x50000000⟩, by decide, rfl, selects_mkWord 0x50 0 0xFFFFFF "MOD.CLR" (by simp)⟩

theorem modSym (b : Bool) : Statement (.modSym b) := fun _ =>
  ⟨⟨"MOD.SYM", 0xFFFFFFFE, 0x51000000⟩, by decide, rfl, selects_mkWord 0x51 (argB b) 0xFFFFFE "MOD.SYM" (argB_zeros b)⟩

theorem modFlush : Statement (.modFlush) := fun _ =>
  ⟨⟨"MOD.FLUSH", 0xFFFFFFFF, 0x52000000⟩, by decide, rfl, selects_mkWord 0x52 0 0xFFFFFF "MOD.FLUSH" (by simp)⟩

theorem modTone (n : Nat) : Statement (.modTone n) := fun _ =>
  ⟨⟨"MOD.TONE", 0xFF000000, 0x53000000⟩, by decide, rfl, selects_mkWord 0x53 (argN n) 0x000000 "MOD.TONE" (argN_zeros n)⟩

theorem modSil (n : Nat) : Statement (.modSil n) := fun _ =>
  ⟨⟨"MOD.SIL", 0xFF000000, 0x54000000⟩, by decide, rfl, selects_mkWord 0x54 (argN n) 0x000000 "MOD.SIL" (argN_zeros n)⟩

theorem txFrame : Statement (.txFrame) := fun _ =>
  ⟨⟨"TX.FRAME", 0xFFFFFFFF, 0x60000000⟩, by decide, rfl, selects_mkWord 0x60 0 0xFFFFFF "TX.FRAME" (by simp)⟩

theorem txLevels : Statement (.txLevels) := fun _ =>
  ⟨⟨"TX.LEVELS", 0xFFFFFFFF, 0x61000000⟩, by decide, rfl, selects_mkWord 0x61 0 0xFFFFFF "TX.LEVELS" (by simp)⟩

theorem txBurst : Statement (.txBurst) := fun _ =>
  ⟨⟨"TX.BURST", 0xFFFFFFFF, 0x62000000⟩, by decide, rfl, selects_mkWord 0x62 0 0xFFFFFF "TX.BURST" (by simp)⟩

theorem rxLvl (v : Byte) : Statement (.rxLvl v) := fun _ =>
  ⟨⟨"RX.LVL", 0xFFFFFF00, 0x68000000⟩, by decide, rfl, selects_mkWord 0x68 (argY v) 0xFFFF00 "RX.LVL" (argY_zeros v)⟩

theorem rxEnd : Statement (.rxEnd) := fun _ =>
  ⟨⟨"RX.END", 0xFFFFFFFF, 0x69000000⟩, by decide, rfl, selects_mkWord 0x69 0 0xFFFFFF "RX.END" (by simp)⟩

end Sys2Proof.Laws.RowOfTable
end

