-- ==== Sys2Proof/Tests/Slice0.lean ====
section
/-! SUPPORT. The model's own tests: ill-formed terms refused, every command's word written out from 30_encoding.md
R63, values from 95_test_vectors.md and the examples of the rules, and a witness for the hypotheses of every statement. -/

namespace Sys2Proof.Tests

open Sys2Proof.Machine Sys2Proof.Safety

-- One kernel evaluation at a time: many waiting ones would each hold a thread.
set_option Elab.async false

/-- Right after reset, in a small instance: 16 payload bits, 4 frame bytes, the reference table, every queue of depth
`d`. -/
def start (d : Option Nat) : State :=
  State.resetWith ⟨16, 16384, referenceLut, 4, d, d, d, d⟩ 0

/-- What `f` sees in the next state, if there is one. -/
def see {β : Type} (a : Answer) (f : State → β) : Option β :=
  match a with
  | .next t => some (f t)
  | .fault _ => none
  | .refused _ => none

/-- A test that passes on the next state gives that state. -/
theorem next_of (a : Answer) (f : State → Bool) (h : see a f = some true) : ∃ t, a = .next t ∧ f t = true := by
  cases a with
  | next t => exact ⟨t, rfl, by simpa [see] using h⟩
  | fault r => simp [see] at h
  | refused r => simp [see] at h

/-! ### Well-formedness (30_encoding.md R66: an operand must fit the format's field) -/

theorem test_wellFormed_tone_too_long : (Instr.modTone 16777216).wellFormed = false := by decide

theorem test_wellFormed_silence_too_long : (Instr.modSil 16777216).wellFormed = false := by decide

/-! ### Decoding: every row of 30_encoding.md R63, the word written out -/

theorem test_decode_nop : decode 0x00000000 = .ok .nop := rfl

theorem test_decode_srst : decode 0x01000000 = .ok .srst := rfl

theorem test_decode_clrAll : decode 0x02000000 = .ok .clrAll := rfl

theorem test_decode_qFlush : decode 0x0300000A = .ok (.qFlush 10) := rfl

theorem test_decode_frqDrop : decode 0x04000000 = .ok .frqDrop := rfl

theorem test_decode_crcClr : decode 0x10000000 = .ok .crcClr := rfl

theorem test_decode_crcBit : decode 0x11000001 = .ok (.crcBit true) := rfl

theorem test_decode_crcByte : decode 0x12000041 = .ok (.crcByte 0x41) := rfl

theorem test_decode_crcEmit : decode 0x13000000 = .ok .crcEmit := rfl

theorem test_decode_pbClr : decode 0x18000000 = .ok .pbClr := rfl

theorem test_decode_pbBit : decode 0x19000000 = .ok (.pbBit false) := rfl

theorem test_decode_pbByte : decode 0x1A0000A5 = .ok (.pbByte 0xA5) := rfl

theorem test_decode_stfClr : decode 0x20000000 = .ok .stfClr := rfl

theorem test_decode_stfBit : decode 0x21000001 = .ok (.stfBit true) := rfl

theorem test_decode_dsfClr : decode 0x24000000 = .ok .dsfClr := rfl

theorem test_decode_dsfBit : decode 0x25000001 = .ok (.dsfBit true) := rfl

theorem test_decode_nzeClr : decode 0x30000000 = .ok .nzeClr := rfl

theorem test_decode_nzeBit : decode 0x31000000 = .ok (.nzeBit false) := rfl

theorem test_decode_nzdClr : decode 0x34000000 = .ok .nzdClr := rfl

theorem test_decode_nzdLvl : decode 0x350000FF = .ok (.nzdLvl 0xFF) := rfl

theorem test_decode_pckClr : decode 0x40000000 = .ok .pckClr := rfl

theorem test_decode_pckBit : decode 0x41000001 = .ok (.pckBit true) := rfl

theorem test_decode_xtrClr : decode 0x44000000 = .ok .xtrClr := rfl

theorem test_decode_xtrByte : decode 0x4500007E = .ok (.xtrByte 0x7E) := rfl

theorem test_decode_modClr : decode 0x50000000 = .ok .modClr := rfl

theorem test_decode_modSym : decode 0x51000001 = .ok (.modSym true) := rfl

theorem test_decode_modFlush : decode 0x52000000 = .ok .modFlush := rfl

theorem test_decode_modTone : decode 0x53FFFFFF = .ok (.modTone 16777215) := rfl

theorem test_decode_modSil : decode 0x54000003 = .ok (.modSil 3) := rfl

theorem test_decode_txFrame : decode 0x60000000 = .ok .txFrame := rfl

theorem test_decode_txLevels : decode 0x61000000 = .ok .txLevels := rfl

theorem test_decode_txBurst : decode 0x62000000 = .ok .txBurst := rfl

theorem test_decode_rxLvl : decode 0x68000080 = .ok (.rxLvl 0x80) := rfl

theorem test_decode_rxEnd : decode 0x69000000 = .ok .rxEnd := rfl

/-- The illegal words of 60_exceptions.md R192. -/
theorem test_decode_illegal :
    ([0xFFFFFFFF, 0x05000000, 0x10000001, 0x11000002, 0x12000100, 0x03000010, 0x46000000, 0x6A000000] : List Word).all
      (fun w => (decode w).toOption.isNone) = true := by decide +kernel

theorem test_decodeTableWord : decodeTableWord 32 0x12000041 = some (.crcByte 0x41) := rfl

theorem test_withFetchWord :
    see (step ((start none).withFetchWord 32 0x12000041)) (fun t => t.crc) = some 0xB915 := by decide +kernel

/-! ### System and queues -/

theorem test_nop_keeps :
    see (exec .nop { start none with crc := 5 }) (fun t => (t.crc, t.err)) =
      some (5, 0) := by decide +kernel

/-- 95_test_vectors.md section 2.5, the row SRST. -/
theorem test_srst_keeps_coef_only :
    see (exec .srst { start none with sps := 2, err := 0x00010001, coef := [(8, 10098974)], caddr := 9 })
        (fun t => (t.sps, t.err, t.caddr, t.coef)) =
      some (0, 0, 0, [(8, 10098974)]) := by decide +kernel

/-- 95_test_vectors.md section 2.5, the row CLR.ALL. -/
theorem test_clrAll_keeps_queues :
    see (exec .clrAll { start none with
        crc := 1, xst := .inFrame, facc := [9], flen := 1, pbuf := [true], oyq := [7], sps := 2 })
        (fun t => (t.crc, t.facc, t.pbuf, t.oyq, t.sps)) =
      some (0xFFFF, [], [true], [7], 2) := by decide +kernel

theorem test_qFlush_frames_and_frd :
    see (exec (.qFlush 4) { start none with obq := [true], ofq := [⟨[1, 2, 3], false⟩], frd := 2 })
        (fun t => (t.obq, t.ofq, t.frd)) =
      some ([true], [], 0) := by decide +kernel

theorem test_qFlush_none :
    see (exec (.qFlush 0) { start none with obq := [true] }) (fun t => t.obq) =
      some [true] := by decide +kernel

theorem test_frqDrop_head :
    see (exec .frqDrop { start none with ofq := [⟨[1], false⟩, ⟨[2], true⟩], frd := 1 })
        (fun t => (t.ofq, t.frd, t.err)) =
      some ([⟨[2], true⟩], 0, 0) := by decide +kernel

/-- 95_test_vectors.md section 2.4. -/
theorem test_frqDrop_empty :
    see (exec .frqDrop (start none)) (fun t => (t.err, t.errcmd)) =
      some (0x00050010, 0x04000000) := by decide +kernel

/-! ### CRC (95_test_vectors.md section 2.1) -/

theorem test_crcClr :
    see (exec .crcClr { start none with crc := 0xB915 }) (fun t => t.crc) =
      some 0xFFFF := by decide +kernel

theorem test_crcBit_one : see (exec (.crcBit true) (start none)) (fun t => t.crc) = some 0xFFFE := by decide +kernel

theorem test_crcBit_zero : see (exec (.crcBit false) (start none)) (fun t => t.crc) = some 0xEFDF := by decide +kernel

theorem test_crcByte : see (exec (.crcByte 0x41) (start none)) (fun t => t.crc) = some 0xB915 := by decide +kernel

theorem test_crcEmit :
    see (exec .crcEmit { start none with crc := 0xB915 }) (fun t => t.obq) =
      some
        [false, true, false, false, false, true, true, false, true, true, true, false, true, false, true, false] := by
  decide +kernel

theorem test_crcEmit_full :
    see (exec .crcEmit (start (some 8))) (fun t => (t.err, t.errcmd, t.obq)) =
      some (0x00040008, 0x13000000, []) := by decide +kernel

theorem test_checksum_of_check_string :
    checksumValue (bitsOfBytes [0x31, 0x32, 0x33, 0x34, 0x35, 0x36, 0x37, 0x38, 0x39]) = 0xD64E := by decide +kernel

/-! ### Payload buffer, stuffer, destuffer, framer (95_test_vectors.md section 2.2) -/

theorem test_pbClr :
    see (exec .pbClr { start none with pbuf := [true] }) (fun t => t.pbuf) =
      some [] := by decide +kernel

theorem test_pbBit :
    see (exec (.pbBit false) { start none with pbuf := [true] }) (fun t => t.pbuf) =
      some [true, false] := by decide +kernel

theorem test_pbBit_full :
    see (exec (.pbBit true) { start none with pbuf := List.replicate 16 false })
        (fun t => (t.err, t.errcmd, t.pbuf.length)) =
      some (0x00030004, 0x19000001, 16) := by decide +kernel

theorem test_pbByte :
    see (exec (.pbByte 0xA5) (start none)) (fun t => t.pbuf) =
      some [true, false, true, false, false, true, false, true] := by decide +kernel

theorem test_pbByte_full :
    see (exec (.pbByte 0xAA) { start none with pbuf := List.replicate 12 false })
        (fun t => (t.err, t.errcmd, t.pbuf.length)) =
      some (0x00030004, 0x1A0000AA, 12) := by decide +kernel

theorem test_stfClr : see (exec .stfClr { start none with scnt := 4 }) (fun t => t.scnt) = some 0 := by decide +kernel

theorem test_stfBit_inserts :
    see (exec (.stfBit true) { start none with scnt := 4 }) (fun t => (t.obq, t.scnt)) =
      some ([true, false], 0) := by decide +kernel

theorem test_stfBit_full :
    see (exec (.stfBit true) { start (some 1) with scnt := 4 }) (fun t => (t.err, t.scnt, t.obq)) =
      some (0x00040008, 4, []) := by decide +kernel

theorem test_dsfClr : see (exec .dsfClr { start none with dcnt := 6 }) (fun t => t.dcnt) = some 0 := by decide +kernel

theorem test_dsfBit_consumes :
    see (exec (.dsfBit false) { start (some 0) with dcnt := 5 }) (fun t => (t.obq, t.dcnt, t.err)) =
      some ([], 0, 0) := by decide +kernel

theorem test_dsfBit_keeps_flag :
    see (exec (.dsfBit true) { start none with dcnt := 5 }) (fun t => (t.obq, t.dcnt)) =
      some ([true], 6) := by decide +kernel

/-- A bit string, leftmost first in time (00_scope.md section 5.1). -/
def ofString (s : String) : Bits := s.toList.map (· == '1')

theorem test_txFrame :
    see (exec .txFrame { start none with pbuf := bitsOfBytes [1, 2], preambleLen := 8 })
        (fun t => (t.obq, t.crc, t.scnt)) =
      some (ofString "01010101011111100000000100000010111100011000001101111110", 0x0E7C, 2) := by decide +kernel

theorem test_txFrame_full :
    see (exec .txFrame { start (some 40) with pbuf := bitsOfBytes [1, 2], preambleLen := 8 })
        (fun t => (t.err, t.errcmd, t.crc, t.obq)) =
      some (0x00040008, 0x60000000, 0xFFFF, []) := by decide +kernel

theorem test_stuff : stuff (ofString "110111110111110") = ofString "11011111001111100" := by decide +kernel

theorem test_destuff : destuff (ofString "1111111110") = ofString "1111111110" := by decide +kernel

/-! ### NRZI (95_test_vectors.md section 2.3) -/

theorem test_nzeClr :
    see (exec .nzeClr { start none with elvl := false }) (fun t => t.elvl) =
      some true := by decide +kernel

theorem test_nzeBit_zero_toggles :
    see (exec (.nzeBit false) (start none)) (fun t => (t.obq, t.elvl)) =
      some ([false], false) := by decide +kernel

theorem test_nzeBit_one_holds :
    see (exec (.nzeBit true) { start none with elvl := false }) (fun t => (t.obq, t.elvl)) =
      some ([false], false) := by decide +kernel

theorem test_nzdClr :
    see (exec .nzdClr { start none with dprv := false }) (fun t => t.dprv) =
      some true := by decide +kernel

theorem test_nzdLvl_any_nonzero :
    see (exec (.nzdLvl 0x80) { start none with dprv := false }) (fun t => (t.obq, t.dprv)) =
      some ([false], true) := by decide +kernel

theorem test_nzdLvl_held :
    see (exec (.nzdLvl 0) { start none with dprv := false }) (fun t => (t.obq, t.dprv)) =
      some ([true], false) := by decide +kernel

theorem test_txLevels :
    see (exec .txLevels { start none with pbuf := bitsOfBytes [1, 2], preambleLen := 8 })
        (fun t => (t.obq, t.scnt, t.elvl)) =
      some (ofString "00110011000000010101010010101001111101000101011100000001", 2, true) := by decide +kernel

/-! ### Packer, extractor, receive chain (95_test_vectors.md section 2.4) -/

theorem test_pckClr :
    see (exec .pckClr { start none with psr := 5, pcnt := 3 }) (fun t => (t.psr, t.pcnt)) =
      some (0, 0) := by decide +kernel

theorem test_pckBit :
    see (exec (.pckBit true) { start none with psr := 2, pcnt := 2 }) (fun t => (t.psr, t.pcnt, t.oyq)) =
      some (5, 3, []) := by decide +kernel

theorem test_pckBit_completes :
    see (exec (.pckBit true) { start none with psr := 0x5A, pcnt := 7 }) (fun t => (t.psr, t.pcnt, t.oyq)) =
      some (0, 0, [0xB5]) := by decide +kernel

theorem test_xtrClr :
    see (exec .xtrClr { start none with xst := .inFrame, facc := [1], flen := 1, xovl := true })
        (fun t => (t.xst, t.facc, t.flen, t.xovl)) =
      some (.searching, [], 0, false) := by decide +kernel

theorem test_xtrByte_emits :
    see (exec (.xtrByte 0x7E) { start none with xst := .inFrame, facc := [1, 2, 0xF1, 0x83], flen := 4 })
        (fun t => (t.ofq, t.flen)) =
      some ([⟨[1, 2, 0xF1, 0x83], true⟩], 0) := by decide +kernel

theorem test_xtrByte_overlong :
    see (exec (.xtrByte 0x7E) { start none with xst := .inFrame, facc := [1, 2, 3, 4], flen := 4, xovl := true })
        (fun t => (t.ofq, t.flen, t.err)) =
      some ([], 0, 0x00000200) := by decide +kernel

theorem test_rxLvl_destuffs :
    see (exec (.rxLvl 0) { start none with dcnt := 5, psr := 3, pcnt := 2 })
        (fun t => (t.dprv, t.dcnt, t.psr, t.pcnt)) =
      some (false, 0, 3, 2) := by decide +kernel

theorem test_rxLvl_queue_full :
    see (exec (.rxLvl 0) { start (some 0) with
        xst := .inFrame, facc := [4, 5, 6], flen := 3, psr := 0x3F, pcnt := 7 }) (fun t => (t.err, t.errcmd, t.flen, t.dprv)) =
      some (0x00040008, 0x68000000, 3, true) := by decide +kernel

theorem test_rxEnd_keeps_transmit :
    see (exec .rxEnd { start none with scnt := 2, dprv := false, dcnt := 3, psr := 1, pcnt := 1 })
        (fun t => stCodecView t) =
      some 0x00000302 := by decide +kernel

theorem test_verify_bad_checksum : verify [1, 2, 0xF1, 0x82] = ([1, 2], false) := by decide +kernel

theorem test_extract_row_x11 : extractFrames 64 [0x7E, 1, 2, 3, 0x7E, 4, 5, 0x7E, 6, 7, 8, 9, 0x7E, 0xA] =
    [[1, 2, 3], [6, 7, 8, 9]] := by decide +kernel

/-! ### Modulator (95_test_vectors.md section 2.6) -/

/-- The delay line after the symbols 1, 1, 0 at SPS = 2. -/
def lastSymbolDl : List Tap := [.neg, .neg, .pos, .pos, .pos, .pos] ++ List.replicate 2042 .zero

/-- SPS = 2, modulation index 0.5, the table G2 of 95_test_vectors.md section 2.6. -/
def gmsk : State :=
  { start none with
    sps := 2, phinc := 0x20000000
    coef := [0, 0, 0, 0, 0, 356, 106034, 3232731, 10098974, 3232731, 106034, 356, 0, 0, 0, 0, 0].mapIdx Prod.mk }

theorem test_modClr :
    see (exec .modClr { start none with acc := 1, dl := [.pos] }) (fun t => (t.acc, t.dl.length, t.dl.head?)) =
      some (0, 2048, some .zero) := by decide +kernel

/-- Samples 6 and 7 of the table: the fourth symbol. -/
theorem test_modSym :
    see (exec (.modSym true) { gmsk with dl := lastSymbolDl, acc := 0x00002C80000000 }) (fun t => (t.acc, t.osq)) =
      some (0x06928D60000000, [⟨16384, 75⟩, ⟨16172, 2628⟩]) := by decide +kernel

theorem test_modSym_sps_zero :
    see (exec (.modSym true) (start none)) (fun t => (t.err, t.errcmd, t.osq)) =
      some (0x00020002, 0x51000001, []) := by decide +kernel

/-- Samples 8 to 23 of the table. -/
theorem test_modFlush :
    see (exec .modFlush
      { gmsk with dl := [.pos, .pos] ++ lastSymbolDl.take 2046, acc := 0x06928D60000000 }) (fun t => (t.acc,
        t.osq.length, t.osq.head?, t.dl.take 18)) =
      some
        (0x80000000000000, 16, some ⟨11532, 11638⟩, List.replicate 16 .zero ++ [.pos, .pos]) := by decide +kernel

theorem test_modTone :
    see (exec (.modTone 4) { start none with wakePhinc := 0x04000000 }) (fun t => (t.acc, t.osq)) =
      some (0x10000000000000,
        [⟨16305, 1606⟩, ⟨16069, 3196⟩, ⟨15679, 4756⟩, ⟨15137, 6270⟩]) := by decide +kernel

theorem test_modTone_negative :
    see (exec (.modTone 2) { start none with wakePhinc := 0xFC000000 }) (fun t => (t.acc, t.osq)) =
      some
        (0xF8000000000000, [⟨16305, -1606⟩, ⟨16069, -3196⟩]) := by decide +kernel

theorem test_modSil :
    see (exec (.modSil 3) { start none with acc := 7 }) (fun t => (t.acc, t.osq)) =
      some (7, List.replicate 3 ⟨0, 0⟩) := by decide +kernel

/-- 60_exceptions.md R207, case 8. -/
theorem test_txBurst_reserved_fit :
    see (exec .txBurst { start none with sps := 2, fit := 3 }) (fun t => (t.err, t.errcmd, t.crc, t.osq)) =
      some (0x00020002, 0x62000000, 0xFFFF, []) := by decide +kernel

/-- One sample of the wake tone, the rest cut (43 R135; LUT[64] of section 2.6). -/
theorem test_txBurst_cut :
    see (exec .txBurst { start none with
        sps := 1, wakeLen := 2, wakePhinc := 0x04000000, fit := 2, bufLen := 1 }) (fun t => (t.osq, t.err)) =
      some ([⟨16305, 1606⟩], 0x00000100) := by decide +kernel

/-! ### Registers (95_test_vectors.md section 2.5; 60_exceptions.md R207) -/

theorem test_read_osq_pop : (regRead 27 { start none with osq := [⟨-11460, 11709⟩] }).2 = 0x2DBDD33C := by
  decide +kernel

theorem test_read_ofq_head : (regRead 24 { start none with ofq := [recordOf [1, 2, 0xF1,
        0x83]] }).2 = 0x80010004 := by
  decide +kernel

theorem test_read_empty_pop : (regRead 20 (start none)).1.err = 0x00050010 := by decide +kernel

theorem test_read_cmd : (regRead 0 (start none)).1.err = 0x00060020 := by decide +kernel

theorem test_write_err_clears_flags :
    see (regWrite 2 0xFFFFFFFF { start none with err := 0x00010001 }) (fun t => t.err) = some 0x00010000 := by
  decide +kernel

theorem test_write_coef_past_the_end :
    see (regWrite 12 6 { start none with caddr := 2049 }) (fun t => (t.err, t.caddr, t.coef)) =
      some (0x00060020, 2049, []) := by decide +kernel
/-! ### Witnesses: for each statement with hypotheses, operands and a state that meet them together -/

/-- A state at the ends of the ranges of 10_state.md, with CMD about to be written. -/
def busy : State :=
  { State.reset with
    scnt := 4, dcnt := 6, psr := 127, pcnt := 7, xst := .inFrame, xovl := true, flen := 64
    facc := List.replicate 64 1
    coef := [(2048, 5)], err := 0x0006033F, ofq := [recordOf [1, 2, 0xF1, 0x83]], frd := 4
    osq := [⟨0, 0⟩, ⟨16384, 0⟩], bus := [.write 0 0x20000000] }

theorem vectorParams_wf : vectorParams.wf = true := by decide +kernel

theorem busy_inv : Inv busy where
  par_wf := vectorParams_wf
  scnt_le := by decide
  dcnt_le := by decide
  psr_lt := by decide
  flen_eq := by decide +kernel
  facc_le := by decide +kernel
  searching_empty := by decide +kernel
  overlong_full := by decide +kernel
  dl_len := List.length_replicate
  coef_wf := by decide
  pbuf_le := by decide
  obq_room := by decide
  oyq_room := by decide
  ofq_room := by decide
  osq_room := by decide
  ofq_records := by decide +kernel
  frd_le := by decide +kernel
  osq_samples := by decide +kernel
  err_reserved := by decide
  lastCode_le := by decide

theorem witness_DecodeInvertsEncode : (Instr.modTone 16777215).WellFormed ∧ (Instr.modSil 0).WellFormed := by decide

theorem witness_EncodeInvertsDecode : decode 0x53FFFFFF = .ok (.modTone 16777215) := rfl

theorem witness_DecoderFollowsOpcodeTable :
    decode 0x0300000F = .ok (.qFlush 15) ∧ decode 0x03000010 = .error .reservedBits ∧
    ∃ r ∈ opcodeTable, r.selects 0x0300000F = true := by decide +kernel

theorem witness_StepRunsDecodedCommand :
    busy.bus = .write 0 0x20000000 :: [] ∧ decode 0x20000000 = .ok .stfClr := ⟨rfl, rfl⟩

theorem witness_IllegalWordOnlyRecorded :
    { start none with bus := [.write 0 0xFFFFFFFF] }.bus = .write 0 0xFFFFFFFF :: [] ∧
    decode 0xFFFFFFFF = .error .unassignedOpcode := ⟨rfl, rfl⟩

theorem witness_StepPerformsHostAccess :
    { start none with bus := [.read 28] }.bus = .read 28 :: [] ∧
    { start none with bus := [.write 1 0] }.bus = .write 1 0 :: [] ∧
    { start none with bus := [.hardwareReset] }.bus = .hardwareReset :: [] ∧ (start none).bus = [] :=
  ⟨rfl, rfl, rfl, rfl⟩

theorem witness_StepKeepsInv : ∃ t, Inv busy ∧ step busy = .next t := ⟨_, busy_inv, rfl⟩

theorem witness_ResetMeetsInv : vectorParams.wf = true := vectorParams_wf

theorem witness_ResetValuesOfEveryRegister : State.reset = State.resetWith vectorParams 0 := rfl

theorem witness_ErrorRecordBits :
    (ErrKind.regacc, 5, 6) ∈ [(ErrKind.illcmd, 0, 1), (.cfg, 1, 2), (.pbfull, 2, 3), (.qfull, 3, 4), (.qempty, 4, 5),
      (.regacc, 5, 6)] := by decide

/-- Both sides of the statement occur: MOD.SYM with SPS = 0 raises E_CFG, CRC.BIT completes. -/
theorem witness_CommandRaisesOrCompletes :
    Instr.modSym true ≠ .srst ∧
    exec (.modSym true) (start none) = .next (raiseCmd .cfg (encode (.modSym true)) (start none)) ∧
    see (exec (.crcBit true) (start none)) (fun t => (t.errcmd, t.err)) = some (0, 0) := by
  refine ⟨by decide, rfl, by decide +kernel⟩

theorem witness_CommandsNeverReadFlags : ∃ t, exec .frqDrop (start none) = .next t := ⟨_, rfl⟩

theorem witness_CommandsKeepConfiguration : ∃ t, exec .txFrame (start none) = .next t ∧ Instr.txFrame ≠ .srst :=
  ⟨_, rfl, by decide⟩

theorem witness_CommandsOnlyAppendToQueues :
    ∃ t, exec .crcEmit (start none) = .next t ∧ Instr.crcEmit ≠ .srst ∧ Instr.crcEmit ≠ .frqDrop ∧
      (∀ m, Instr.crcEmit ≠ .qFlush m) ∧ Instr.crcEmit ≠ .pbClr ∧ (∀ b, Instr.crcEmit ≠ .pbBit b) ∧
      ∀ v, Instr.crcEmit ≠ .pbByte v := ⟨_, rfl, by simp, by simp, by simp, by simp, by simp, by simp⟩

theorem witness_TransmitAndReceiveShareNothing :
    (∃ t, exec .txBurst (start none) = .next t ∧ isTransmit .txBurst = true) ∧
    ∃ t, exec (.rxLvl 1) (start none) = .next t ∧ isReceive (.rxLvl 1) = true := ⟨⟨_, rfl, rfl⟩, ⟨_, rfl, rfl⟩⟩

theorem witness_FlushEmptiesSelectedQueues :
    (15#4).getLsbD 0 = true ∧ (15#4).getLsbD 1 = true ∧ (15#4).getLsbD 2 = true ∧ (15#4).getLsbD 3 = true ∧
    (0#4).getLsbD 0 = false ∧ (0#4).getLsbD 1 = false ∧ (0#4).getLsbD 2 = false ∧ (0#4).getLsbD 3 = false := by decide

theorem witness_DropRemovesHeadFrame :
    busy.ofq = recordOf [1, 2, 0xF1, 0x83] :: [] ∧ (start none).ofq = [] := ⟨rfl, rfl⟩

/-- OBQ with exactly the room CRC.EMIT needs, and with one place less. -/
theorem witness_CrcEmitPushesComplement :
    room (start (some 16)).par.obqDepth (start (some 16)).obq.length 16 = true ∧
    room (start (some 15)).par.obqDepth (start (some 15)).obq.length 16 = false := by decide +kernel

theorem witness_CrcResidueAndLinearity : 3 ≤ ([0x41, 0x46, 0xEA] : List Byte).length := by decide

theorem witness_VerifyComparesLastTwoBytes : ([0x41] : List Byte) ≠ [] := by decide

theorem witness_PayloadAppendsOrRefuses :
    (∃ s : State, s.pbuf.length + 1 ≤ s.par.pbufMax ∧ s.par.pbufMax < s.pbuf.length + 8) ∧
    (∃ s : State, s.par.pbufMax < s.pbuf.length + 1) ∧ ∃ s : State, s.pbuf.length + 8 ≤ s.par.pbufMax :=
  ⟨⟨{ start none with pbuf := List.replicate 15 true }, by decide +kernel⟩,
    ⟨{ start none with pbuf := List.replicate 16 true }, by decide +kernel⟩,
    ⟨{ start none with pbuf := List.replicate 8 true }, by decide +kernel⟩⟩

/-- SCNT = 3 and 4, and OBQ with room for 2, 1 and 0 bits. -/
theorem witness_StfBitStuffs :
    (∃ s : State, s.scnt.toNat = 3 ∧ room s.par.obqDepth s.obq.length 1 = true) ∧
    (∃ s : State, s.scnt.toNat = 4 ∧ room s.par.obqDepth s.obq.length 2 = true) ∧
    (∃ s : State, s.scnt.toNat = 3 ∧ room s.par.obqDepth s.obq.length 1 = false) ∧
    ∃ s : State, s.scnt.toNat = 4 ∧ room s.par.obqDepth s.obq.length 1 = true ∧
      room s.par.obqDepth s.obq.length 2 = false :=
  ⟨⟨{ start (some 1) with scnt := 3 }, by decide +kernel⟩, ⟨{ start (some 2) with scnt := 4 }, by decide +kernel⟩,
    ⟨{ start (some 0) with scnt := 3 }, by decide +kernel⟩, ⟨{ start (some 1) with scnt := 4 }, by decide +kernel⟩⟩

/-- DCNT = 4, 5 and 6, and OBQ with room for one bit and for none. -/
theorem witness_DsfBitDestuffs :
    (∃ s : State, s.dcnt.toNat = 4 ∧ room s.par.obqDepth s.obq.length 1 = true) ∧
    (∃ s : State, s.dcnt.toNat = 5 ∧ room s.par.obqDepth s.obq.length 1 = true) ∧
    (∃ s : State, s.dcnt.toNat = 6 ∧ room s.par.obqDepth s.obq.length 1 = true) ∧
    (∃ s : State, s.dcnt.toNat = 5 ∧ room s.par.obqDepth s.obq.length 1 = false) ∧
    ∃ s : State, s.dcnt.toNat = 6 ∧ room s.par.obqDepth s.obq.length 1 = false :=
  ⟨⟨{ start (some 1) with dcnt := 4 }, by decide +kernel⟩, ⟨{ start (some 1) with dcnt := 5 }, by decide +kernel⟩,
    ⟨{ start (some 1) with dcnt := 6 }, by decide +kernel⟩, ⟨{ start (some 0) with dcnt := 5 }, by decide +kernel⟩,
    ⟨{ start (some 0) with dcnt := 6 }, by decide +kernel⟩⟩

theorem witness_DestuffUndoesStuff :
    ¬ (List.replicate 5 true <:+: preamble 8) ∧ ¬ (List.replicate 5 true <:+: ([] : Bits)) ∧ 7 ≥ 7 := by decide

/-- OBQ with exactly the room the 32 bits of the empty payload's frame need, and with one place less. -/
theorem witness_TxFramePushesFrame :
    (∃ s : State, room s.par.obqDepth s.obq.length (frame s.pbuf s.preambleLen.toNat).length = true) ∧
    ∃ s : State, room s.par.obqDepth s.obq.length (frame s.pbuf s.preambleLen.toNat).length = false :=
  ⟨⟨start (some 32), by decide +kernel⟩, ⟨start (some 31), by decide +kernel⟩⟩

theorem witness_NzeBitTogglesOnZero :
    room (start (some 1)).par.obqDepth (start (some 1)).obq.length 1 = true ∧
    room (start (some 0)).par.obqDepth (start (some 0)).obq.length 1 = false := by decide +kernel

theorem witness_NzdLvlComparesLevels :
    room (start (some 1)).par.obqDepth (start (some 1)).obq.length 1 = true ∧
    room (start (some 0)).par.obqDepth (start (some 0)).obq.length 1 = false := by decide +kernel

theorem witness_TxLevelsPushesNrziFrame :
    (∃ (s : State) (levels : Bits), levels = nrziEncode (frame s.pbuf s.preambleLen.toNat) ∧
      room s.par.obqDepth s.obq.length levels.length = true) ∧
    ∃ (s : State) (levels : Bits), levels = nrziEncode (frame s.pbuf s.preambleLen.toNat) ∧
      room s.par.obqDepth s.obq.length levels.length = false :=
  ⟨⟨start (some 32), _, rfl, by decide +kernel⟩, ⟨start (some 31), _, rfl, by decide +kernel⟩⟩

/-- The three commands, at the least and the greatest ratio. -/
theorem witness_ModSymAndFlushConvolve :
    (∃ (s : State) (i : Instr) (u : Tap) (n : Nat), i = .modSym false ∧ u = .neg ∧ n = s.sps.toNat ∧ s.sps.toNat = 1 ∧
      s.dl.length = 2048 ∧ room s.par.osqDepth s.osq.length n = true) ∧
    ∃ (s : State) (i : Instr) (u : Tap) (n : Nat), i = .modFlush ∧ u = .zero ∧ n = 8 * s.sps.toNat ∧
      s.sps.toNat = 256 ∧ s.dl.length = 2048 ∧ room s.par.osqDepth s.osq.length n = true :=
  ⟨⟨{ start (some 1) with sps := 1 }, _, _, _, rfl, rfl, rfl, by decide, List.length_replicate, by decide +kernel⟩,
    ⟨{ start (some 2048) with sps := 256 }, _, _, _, rfl, rfl, rfl, by decide, List.length_replicate,
      by decide +kernel⟩⟩

theorem witness_ModulatorErrorsInOrder :
    (∃ s : State, s.sps.toNat = 0) ∧ (∃ s : State, s.sps.toNat = 257) ∧ (∃ s : State, s.fit.toNat = 3) ∧
    (∃ s : State, s.fit.toNat ≠ 0 ∧ s.bufLen.toNat = 0) ∧
    ∃ s : State, s.sps.toNat = 256 ∧ room s.par.osqDepth s.osq.length s.sps.toNat = false ∧
      room s.par.osqDepth s.osq.length (8 * s.sps.toNat) = false :=
  ⟨⟨start none, rfl⟩, ⟨{ start none with sps := 257 }, by decide⟩, ⟨{ start none with fit := 3 }, by decide⟩,
    ⟨{ start none with fit := 1 }, by decide⟩, ⟨{ start (some 255) with sps := 256 }, by decide +kernel⟩⟩

theorem witness_FlushSettlesTheFilter :
    (∃ s : State, s.sps.toNat = 1 ∧ s.dl.length = 2048 ∧
      room s.par.osqDepth s.osq.length (16 * s.sps.toNat) = true) ∧
    ∃ s : State, s.sps.toNat = 256 ∧ s.dl.length = 2048 ∧
      room s.par.osqDepth s.osq.length (16 * s.sps.toNat) = true :=
  ⟨⟨{ start (some 16) with sps := 1 }, by decide, List.length_replicate, by decide +kernel⟩,
    ⟨{ start none with sps := 256 }, by decide, List.length_replicate, by decide +kernel⟩⟩

theorem witness_ToneAndSilence :
    16777215 < 2 ^ 24 ∧ room (start none).par.osqDepth (start none).osq.length 16777215 = true ∧
    room (start (some 0)).par.osqDepth (start (some 0)).osq.length 0 = true ∧
    0 < 1 ∧ room (start (some 0)).par.osqDepth (start (some 0)).osq.length 1 = false := by decide +kernel

theorem witness_BurstEndsOnNetPhase :
    (∃ s : State, 1 ≤ s.sps.toNat ∧ s.sps.toNat ≤ 256 ∧ s.sps.toNat = 1) ∧
    ∃ s : State, 1 ≤ s.sps.toNat ∧ s.sps.toNat ≤ 256 ∧ s.sps.toNat = 256 :=
  ⟨⟨{ start none with sps := 1 }, by decide⟩, ⟨{ start none with sps := 256 }, by decide⟩⟩

/-- A burst of two samples against buffers of 1, 2 and 5. -/
theorem witness_FitMatchesBufferLength :
    [Sample.silent, Sample.silent] ≠ [] ∧ 1 < [Sample.silent, Sample.silent].length ∧
    [Sample.silent, Sample.silent].length ≤ 2 ∧ 4 < 5 ∧ ((1#2) = 1 ∨ (1#2) = 2) ∧ ((2#2) = 1 ∨ (2#2) = 2) := by decide

/-- The least burst of the empty payload without a tone, 40 samples at SPS = 1, as it is (with room and without) and cut
to 1 sample. -/
theorem witness_TxBurstPushesFittedBurst :
    (∃ (s : State) (levels : Bits) (o : List Sample × Bool), s.sps.toNat = 1 ∧ s.fit.toNat = 0 ∧
      levels = nrziEncode (frame s.pbuf s.preambleLen.toNat) ∧
      o = fitBurst s.fit s.bufLen.toNat (burst s levels).2 ∧ room s.par.osqDepth s.osq.length o.1.length = true) ∧
    (∃ (s : State) (levels : Bits) (o : List Sample × Bool), s.sps.toNat = 1 ∧ s.fit.toNat = 0 ∧
      levels = nrziEncode (frame s.pbuf s.preambleLen.toNat) ∧
      o = fitBurst s.fit s.bufLen.toNat (burst s levels).2 ∧ room s.par.osqDepth s.osq.length o.1.length = false) ∧
    ∃ (s : State) (levels : Bits) (o : List Sample × Bool), s.sps.toNat = 1 ∧ s.fit.toNat ≠ 3 ∧ 0 < s.bufLen.toNat ∧
      levels = nrziEncode (frame s.pbuf s.preambleLen.toNat) ∧
      o = fitBurst s.fit s.bufLen.toNat (burst s levels).2 ∧ o.2 = true ∧
      room s.par.osqDepth s.osq.length o.1.length = true :=
  ⟨⟨{ start (some 40) with sps := 1 }, _, _, by decide, by decide, rfl, rfl, by decide +kernel⟩,
    ⟨{ start (some 39) with sps := 1 }, _, _, by decide, by decide, rfl, rfl, by decide +kernel⟩,
    ⟨{ start (some 1) with sps := 1, wakeLen := 2, fit := 1, bufLen := 1 }, _, _, by decide, by decide, by decide,
      rfl, rfl, by decide +kernel, by decide +kernel⟩⟩

/-- SPS = 1 with exactly the room the 40 samples of the empty payload's burst need, and SPS = 256 with a tone. -/
theorem witness_BurstIsItsPrimitiveCommands :
    (∃ (s : State) (levels : Bits), s.sps.toNat = 1 ∧
      room s.par.osqDepth s.osq.length (s.wakeLen.toNat + s.sps.toNat * levels.length + 8 * s.sps.toNat) = true ∧
      s.fit = 0 ∧ levels = nrziEncode (frame s.pbuf s.preambleLen.toNat)) ∧
    ∃ (s : State) (levels : Bits), s.sps.toNat = 256 ∧ levels ≠ [] ∧
      room s.par.osqDepth s.osq.length (s.wakeLen.toNat + s.sps.toNat * levels.length + 8 * s.sps.toNat) = true :=
  ⟨⟨{ start (some 40) with sps := 1 }, _, by decide, by decide +kernel, by decide, rfl⟩,
    ⟨{ start none with sps := 256, wakeLen := 2 }, [true], by decide +kernel⟩⟩

/-- Two states with the same inputs that differ in CRC, SCNT, ELVL, DL, ACC and in what the queues hold. -/
theorem witness_TransmitOutputDependsOnInputsOnly :
    ∃ s s' : State, SameInputs s s' ∧
      (∃ t, exec .txFrame s = .next t ∧ t.obq ≠ s.obq) ∧ (∃ t, exec .txFrame s' = .next t ∧ t.obq ≠ s'.obq) ∧
      (∃ t, exec .txBurst s = .next t ∧ t.osq ≠ s.osq) ∧ ∃ t, exec .txBurst s' = .next t ∧ t.osq ≠ s'.osq := by
  let s : State := { start none with sps := 1 }
  let s' : State :=
    { s with
      crc := 0, scnt := 3, elvl := false, dl := [.pos], acc := 9, obq := [true], osq := [⟨1, 2⟩] }
  have hf : ∀ x : State, see (exec .txFrame x) (fun t => decide (t.obq ≠ x.obq)) = some true →
      ∃ t, exec .txFrame x = .next t ∧ t.obq ≠ x.obq := fun x h => by
    obtain ⟨t, h1, h2⟩ := next_of _ _ h
    exact ⟨t, h1, of_decide_eq_true h2⟩
  have hb : ∀ x : State, see (exec .txBurst x) (fun t => decide (t.osq.length ≠ x.osq.length)) = some true →
      ∃ t, exec .txBurst x = .next t ∧ t.osq ≠ x.osq := fun x h => by
    obtain ⟨t, h1, h2⟩ := next_of _ _ h
    exact ⟨t, h1, fun he => of_decide_eq_true h2 (congrArg List.length he)⟩
  refine ⟨s, s', ⟨rfl, rfl, rfl, rfl, rfl, rfl, rfl, rfl, rfl, fun _ _ => rfl⟩, hf s ?_, hf s' ?_, hb s ?_, hb s' ?_⟩ <;>
    decide +kernel

theorem witness_SamplesNeverClip : Inv busy ∧ (⟨16384, 0⟩ : Sample) ∈ busy.osq :=
  ⟨busy_inv, List.mem_cons_of_mem _ (List.mem_cons_self ..)⟩

/-- PCNT = 6 and 7, OYQ with room for one byte and for none, and a remainder of seven bits. -/
theorem witness_PckBitPacksBytes :
    (∃ s : State, s.pcnt.toNat = 6) ∧
    (∃ s : State, s.pcnt.toNat = 7 ∧ room s.par.oyqDepth s.oyq.length 1 = true) ∧
    (∃ s : State, s.pcnt.toNat = 7 ∧ room s.par.oyqDepth s.oyq.length 1 = false) ∧ (List.replicate 7 true).length < 8 :=
  ⟨⟨{ start none with pcnt := 6 }, by decide⟩, ⟨{ start (some 1) with pcnt := 7 }, by decide +kernel⟩,
    ⟨{ start (some 0) with pcnt := 7 }, by decide +kernel⟩, by decide⟩

/-- FACC of 2, 3 and 4 bytes (FRAME_MAX is 4), overlong or not, and OFQ with room for one record and for none. -/
theorem witness_XtrByteExtracts :
    (0x7F#8 ≠ 0x7E) ∧ (start none).xst = .searching ∧
    (∃ s : State, s.xst = .inFrame ∧ s.facc.length < s.par.frameMax ∧ s.facc.length + 1 = s.par.frameMax) ∧
    (∃ s : State, s.xst = .inFrame ∧ s.par.frameMax ≤ s.facc.length) ∧
    (∃ s : State, s.xst = .inFrame ∧ s.xovl = false ∧ s.facc.length = 2) ∧
    (∃ s : State, s.xst = .inFrame ∧ s.xovl = true) ∧
    (∃ s : State, s.xst = .inFrame ∧ s.xovl = false ∧ s.facc.length = 3 ∧
      room s.par.ofqDepth s.ofq.length 1 = true) ∧
    ∃ s : State, s.xst = .inFrame ∧ s.xovl = false ∧ s.facc.length = 3 ∧
      room s.par.ofqDepth s.ofq.length 1 = false :=
  ⟨by decide, rfl, ⟨{ start none with xst := .inFrame, facc := [1, 2, 3] }, by decide +kernel⟩,
    ⟨{ start none with xst := .inFrame, facc := [1, 2, 3, 4] }, by decide +kernel⟩,
    ⟨{ start none with xst := .inFrame, facc := [1, 2] }, by decide +kernel⟩,
    ⟨{ start none with xst := .inFrame, facc := [1, 2, 3, 4], xovl := true }, by decide +kernel⟩,
    ⟨{ start (some 1) with xst := .inFrame, facc := [1, 2, 3] }, by decide +kernel⟩,
    ⟨{ start (some 0) with xst := .inFrame, facc := [1, 2, 3] }, by decide +kernel⟩⟩

/-- Row X11 of 95_test_vectors.md section 2.4: segments of 3, 2, 4 and 0 bytes, FRAME_MAX 4. -/
theorem witness_ExtractFramesGivesSegments :
    (∀ v ∈ ([9] : List Byte), v ≠ 0x7E) ∧
    ∀ g ∈ ([[1, 2, 3], [4, 5], [6, 7, 8, 9], []] : List (List Byte)), g.length ≤ 4 ∧ ∀ v ∈ g, v ≠ 0x7E := by decide

/-- A level that completes no byte, one that closes a frame with room in OFQ, and the same without. -/
theorem witness_RxLvlStepsTheChain :
    (rxStep 4 (rxUnit (start none)) 1).out = none ∧
    (∃ (s : State) (fr : List Byte), (rxStep s.par.frameMax (rxUnit s) 0).out = some fr ∧
      room s.par.ofqDepth s.ofq.length 1 = true) ∧
    ∃ (s : State) (fr : List Byte), (rxStep s.par.frameMax (rxUnit s) 0).out = some fr ∧
      room s.par.ofqDepth s.ofq.length 1 = false :=
  ⟨by decide +kernel,
    ⟨{ start (some 1) with xst := .inFrame, facc := [4, 5, 6], psr := 0x3F, pcnt := 7 }, [4, 5, 6], by decide +kernel⟩,
    ⟨{ start (some 0) with xst := .inFrame, facc := [4, 5, 6], psr := 0x3F, pcnt := 7 }, [4, 5, 6], by decide +kernel⟩⟩

/-- The clauses written out, at DCNT 5 and 6: a 0 consumed and a 1 that is not, six and seven bits in PSR, a byte that is
no flag before the first flag, in a frame of 3 and of FRAME_MAX = 4 bytes, and a flag after 2 bytes, after an overlong
frame, and after 3 bytes with room for the record and without. -/
theorem witness_RxLvlStepsTheChain_written_out :
    (∃ s : State, s.dcnt.toNat = 5 ∧ decide (s.dprv = decide (0 < (0 : Byte).toNat)) = false) ∧
    (∃ s : State, s.dcnt.toNat = 5 ∧ decide (s.dprv = decide (0 < (0xFF : Byte).toNat)) = true ∧ s.pcnt.toNat = 6) ∧
    (∃ s : State, s.dcnt.toNat = 6 ∧ s.pcnt.toNat = 7 ∧ s.psr <<< 1 ||| (BitVec.ofBool true).setWidth 8 ≠ 0x7E ∧
      s.xst = .searching) ∧
    (∃ s : State, s.dcnt.toNat = 6 ∧ s.pcnt.toNat = 7 ∧ s.psr <<< 1 ||| (BitVec.ofBool true).setWidth 8 ≠ 0x7E ∧
      s.xst = .inFrame ∧ s.facc.length < s.par.frameMax) ∧
    (∃ s : State, s.dcnt.toNat = 6 ∧ s.pcnt.toNat = 7 ∧ s.psr <<< 1 ||| (BitVec.ofBool true).setWidth 8 ≠ 0x7E ∧
      s.xst = .inFrame ∧ s.par.frameMax ≤ s.facc.length) ∧
    (∃ s : State, s.dcnt.toNat = 6 ∧ s.pcnt.toNat = 7 ∧ s.psr <<< 1 ||| (BitVec.ofBool false).setWidth 8 = 0x7E ∧
      s.xst = .inFrame ∧ s.xovl = false ∧ s.facc.length ≤ 2) ∧
    (∃ s : State, s.dcnt.toNat = 6 ∧ s.pcnt.toNat = 7 ∧ s.psr <<< 1 ||| (BitVec.ofBool false).setWidth 8 = 0x7E ∧
      s.xst = .inFrame ∧ s.xovl = true) ∧
    (∃ s : State, s.dcnt.toNat = 6 ∧ s.pcnt.toNat = 7 ∧ s.psr <<< 1 ||| (BitVec.ofBool false).setWidth 8 = 0x7E ∧
      s.xst = .inFrame ∧ s.xovl = false ∧ 2 < s.facc.length ∧ room s.par.ofqDepth s.ofq.length 1 = true) ∧
    ∃ s : State, s.dcnt.toNat = 6 ∧ s.pcnt.toNat = 7 ∧ s.psr <<< 1 ||| (BitVec.ofBool false).setWidth 8 = 0x7E ∧
      s.xst = .inFrame ∧ s.xovl = false ∧ 2 < s.facc.length ∧ room s.par.ofqDepth s.ofq.length 1 = false := by
  let flag (d : Option Nat) (n : Nat) : State :=
    { start d with dcnt := 6, psr := 0x3F, pcnt := 7, xst := .inFrame, facc := List.replicate n 1 }
  exact ⟨⟨{ start none with dcnt := 5 }, by decide +kernel⟩,
    ⟨{ start none with dcnt := 5, pcnt := 6 }, by decide +kernel⟩,
    ⟨{ flag none 0 with xst := .searching }, by decide +kernel⟩, ⟨flag none 3, by decide +kernel⟩,
    ⟨flag none 4, by decide +kernel⟩, ⟨flag none 2, by decide +kernel⟩,
    ⟨{ flag none 4 with xovl := true }, by decide +kernel⟩, ⟨flag (some 1) 3, by decide +kernel⟩,
    ⟨flag (some 0) 3, by decide +kernel⟩⟩

/-- The frame of payload 01 02 after a preamble of 8 bits (95_test_vectors.md section 2.4), FRAME_MAX exactly its four
bytes, room for exactly one record, level 1 sent as 0xFF. -/
theorem witness_TransmittedFrameIsReceived :
    ∃ (s : State) (p : Bits) (vs : List Byte), exec .rxEnd (start (some 1)) = .next s ∧
      room s.par.ofqDepth s.ofq.length 1 = true ∧ p.length % 8 = 0 ∧ 8 ≤ p.length ∧ 8 % 8 = 0 ∧
      p.length / 8 + 2 ≤ s.par.frameMax ∧ (∀ v ∈ pack (p ++ checksum16 p), v ≠ 0x7E) ∧
      vs.map (fun v => decide (0 < v.toNat)) = nrziEncode (frame p 8) :=
  ⟨_, bitsOfBytes [1, 2], (nrziEncode (frame (bitsOfBytes [1, 2]) 8)).map (fun l => if l then 0xFF else 0), rfl,
    by decide +kernel, by decide +kernel, by decide +kernel, by decide, by decide +kernel, by decide +kernel,
    by decide +kernel⟩

theorem witness_ConfigurationReadsBackAsWritten :
    (11, 0x00000FFF#32) ∈ [(4, 0x0000FFFF#32), (5, 0x000001FF#32), (6, 0xFFFFFFFF#32), (7, 0x00FFFFFF#32),
      (8, 0xFFFFFFFF#32), (9, 0x00FFFFFF#32), (10, 0x00000003#32), (11, 0x00000FFF#32)] ∧
    (28 : Nat) ≠ 11 ∧ (28 : Nat) ∉ [12, 20, 22, 25, 27] := by decide

theorem witness_CoefReadsBackAsWritten :
    { start none with caddr := 2048 }.caddr.toNat < 2049 ∧ 2049 ≤ { start none with caddr := 2049 }.caddr.toNat := by
  decide +kernel

/-- Empty queues, queues with a head, and a head record with a byte left and read to its end. -/
theorem witness_PopRegistersReturnHead :
    ((start none).obq = [] ∧ (start none).oyq = [] ∧ (start none).ofq = [] ∧ (start none).osq = []) ∧
    (∃ s : State, s.obq = true :: [] ∧ s.oyq = 0xFF :: [] ∧ s.osq = ⟨0x8000, 0x7FFF⟩ :: [] ∧
      s.ofq = ⟨[1, 2, 3], false⟩ :: [] ∧ ([1, 2, 3] : List Byte).length < 2 ^ 16 ∧
      ([1, 2, 3] : List Byte)[s.frd.toNat]? = some 3) ∧
    ∃ s : State, s.ofq = ⟨[1, 2, 3], false⟩ :: [] ∧ ([1, 2, 3] : List Byte).length ≤ s.frd.toNat :=
  ⟨⟨rfl, rfl, rfl, rfl⟩,
    ⟨{ start none with
        obq := [true], oyq := [0xFF], osq := [⟨0x8000, 0x7FFF⟩], ofq := [⟨[1, 2, 3], false⟩], frd := 2 },
      rfl, rfl, rfl, rfl, by decide, by decide +kernel⟩,
    ⟨{ start none with ofq := [⟨[1, 2, 3], false⟩], frd := 3 }, rfl, by decide +kernel⟩⟩

theorem witness_ViewsShowTheUnits : 27 ∈ [0, 12, 20, 22, 25, 27] ∧ 28 ≤ 28 ∧ 28 ∉ [0, 12, 20, 22, 25, 27] ∧
    (start none).pbuf.length < 2 ^ 32 ∧ (start none).par.amp < 2 ^ 16 := by decide +kernel

theorem witness_WrongAccessIsRefused :
    (29 = 0 ∨ 28 < 29) ∧ (0 = 0 ∨ 28 < 0) ∧ (13 = 1 ∨ 13 = 3 ∨ 13 ≤ 13) ∧
    2049 ≤ { start none with caddr := 2049 }.caddr.toNat := by decide +kernel

end Sys2Proof.Tests
end

section
/-! PROOFS. Every command as a plan: the tests it makes, in order, and its whole effect when all of them pass. -/

namespace Sys2Proof.Machine

/-! ### Events that may be set -/

/-- The event `k` if the command met it, as TX.BURST and the extractor's commands set it (60_exceptions.md R198). -/
def withEvent (met : Bool) (k : EventKind) (t : State) : State := if met then setEvent k t else t

theorem withEvent_eq (met : Bool) (k : EventKind) (t : State) :
    withEvent met k t = { t with err := if met then eventAfter k t.err else t.err } := by
  cases met <;> rfl

@[simp] theorem withEvent_par (met : Bool) (k : EventKind) (t : State) : (withEvent met k t).par = t.par := by
  rw [withEvent_eq]

@[simp] theorem fitsOfq_withEvent (met : Bool) (k : EventKind) (t : State) :
    fitsOfq (withEvent met k t) = fitsOfq t := by
  rw [withEvent_eq]; rfl

@[simp] theorem fitsOsq_withEvent (met : Bool) (k : EventKind) (t : State) :
    fitsOsq (withEvent met k t) = fitsOsq t := by
  rw [withEvent_eq]; rfl

/-! ### Plans -/

/-- "Check everything, then act" (92_eei_decisions.md D23): a command's tests in the order it makes them, each with the
error it raises, and the state it leaves if all pass. -/
structure Plan where
  tests : List (Bool × ErrKind)
  result : State

namespace Plan

/-- All tests pass. -/
def Passes (p : Plan) : Prop := ∀ x ∈ p.tests, x.1 = true

/-- The state a plan leaves for the command word `w` in the state `s`: the error of the first test that fails, or the
result. -/
def commit (p : Plan) (w : Word) (s : State) : State :=
  p.tests.foldr (fun x t => commitIf x.1 x.2 w s t) p.result

/-- A command that tests nothing. -/
def plain (t : State) : Plan := ⟨[], t⟩

/-- A command whose output goes to one queue (60_exceptions.md R195). -/
def obq (out : Bits) (s t : State) : Plan := ⟨[(fitsObq s out.length, .qfull)], pushObq out t⟩
def oyq (out : List Byte) (s t : State) : Plan := ⟨[(fitsOyq s out.length, .qfull)], pushOyq out t⟩
def ofq (out : List FrameRecord) (s t : State) : Plan := ⟨[(fitsOfq s out.length, .qfull)], pushOfq out t⟩

/-- A command whose output of `n` samples goes to OSQ. -/
def osq (n : Nat) (out : List Sample) (s t : State) : Plan := ⟨[(fitsOsq s n, .qfull)], pushOsq out t⟩

/-- A test made before all others. -/
def guard (ok : Bool) (k : ErrKind) (p : Plan) : Plan := ⟨(ok, k) :: p.tests, p.result⟩

/-- Bits for the payload buffer (41_stuffing_framing.md R92, R93). -/
def pbuf (bits : Bits) (s : State) : Plan :=
  guard (decide (s.pbuf.length + bits.length ≤ s.par.pbufMax)) .pbfull (plain { s with pbuf := s.pbuf ++ bits })

/-- A run of the modulator (43_gmsk_modulator.md R130, R131). -/
def modulator (us : List Tap) (s : State) : Plan :=
  let r := modRun s (modUnit s) us
  guard (spsLegal s) .cfg (osq us.length r.2 s { s with dl := r.1.dl, acc := r.1.acc })

/-- A frame for OFQ, if one was closed, and the event of a dropped one (44_frame_extractor.md R156, R161). -/
def frame (out : Option (List Byte)) (drop : Bool) (s t : State) : Plan :=
  ofq (out.toList.map recordOf) s (withEvent drop .fovf t)

@[simp] theorem plain_passes (t : State) : (plain t).Passes := by simp [Passes, plain]

@[simp] theorem guard_passes (ok : Bool) (k : ErrKind) (p : Plan) :
    (guard ok k p).Passes ↔ ok = true ∧ p.Passes := by simp [Passes, guard]

@[simp] theorem obq_passes (out : Bits) (s t : State) : (obq out s t).Passes ↔ fitsObq s out.length = true := by
  simp [Passes, obq]

@[simp] theorem oyq_passes (out : List Byte) (s t : State) :
    (oyq out s t).Passes ↔ fitsOyq s out.length = true := by simp [Passes, oyq]

@[simp] theorem ofq_passes (out : List FrameRecord) (s t : State) :
    (ofq out s t).Passes ↔ fitsOfq s out.length = true := by simp [Passes, ofq]

@[simp] theorem osq_passes (n : Nat) (out : List Sample) (s t : State) :
    (osq n out s t).Passes ↔ fitsOsq s n = true := by simp [Passes, osq]

@[simp] theorem pbuf_passes (bits : Bits) (s : State) :
    (pbuf bits s).Passes ↔ s.pbuf.length + bits.length ≤ s.par.pbufMax := by simp [pbuf]

@[simp] theorem modulator_passes (us : List Tap) (s : State) :
    (modulator us s).Passes ↔ spsLegal s = true ∧ fitsOsq s us.length = true := by simp [modulator]

@[simp] theorem frame_passes (out : Option (List Byte)) (drop : Bool) (s t : State) :
    (frame out drop s t).Passes ↔ fitsOfq s out.toList.length = true := by simp [frame]

@[simp] theorem plain_result (t : State) : (plain t).result = t := rfl
@[simp] theorem guard_result (ok : Bool) (k : ErrKind) (p : Plan) : (guard ok k p).result = p.result := rfl
@[simp] theorem obq_result (out : Bits) (s t : State) : (obq out s t).result = pushObq out t := rfl
@[simp] theorem oyq_result (out : List Byte) (s t : State) : (oyq out s t).result = pushOyq out t := rfl
@[simp] theorem ofq_result (out : List FrameRecord) (s t : State) : (ofq out s t).result = pushOfq out t := rfl
@[simp] theorem osq_result (n : Nat) (out : List Sample) (s t : State) : (osq n out s t).result = pushOsq out t := rfl
@[simp] theorem pbuf_result (bits : Bits) (s : State) : (pbuf bits s).result = { s with pbuf := s.pbuf ++ bits } := rfl

@[simp] theorem modulator_result (us : List Tap) (s : State) :
    (modulator us s).result = pushOsq (modRun s (modUnit s) us).2
      { s with dl := (modRun s (modUnit s) us).1.dl, acc := (modRun s (modUnit s) us).1.acc } := rfl

@[simp] theorem frame_result (out : Option (List Byte)) (drop : Bool) (s t : State) :
    (frame out drop s t).result = pushOfq (out.toList.map recordOf) (withEvent drop .fovf t) := rfl

/-- A plan has its whole effect, or records one error on the unchanged state. -/
theorem commit_cases (p : Plan) (w : Word) (s : State) :
    (p.Passes ∧ p.commit w s = p.result) ∨ ∃ k, p.commit w s = raiseCmd k w s := by
  obtain ⟨tests, t⟩ := p
  induction tests with
  | nil => exact .inl ⟨plain_passes t, rfl⟩
  | cons x rest ih =>
    obtain ⟨ok, k⟩ := x
    rcases commitIf_cases ok k w s (commit ⟨rest, t⟩ w s) with ⟨hok, h⟩ | ⟨-, h⟩
    · rcases ih with ⟨hp, hr⟩ | ⟨k', hr⟩
      · exact .inl ⟨(guard_passes ok k ⟨rest, t⟩).mpr ⟨hok, hp⟩, h.trans hr⟩
      · exact .inr ⟨k', h.trans hr⟩
    · exact .inr ⟨k, h⟩

end Plan

/-! ### The plan of each command -/

/-- What each command tests and what it leaves, its unit's registers before its pushes. -/
def plan (i : Instr) (s : State) : Plan :=
  match i with
  | .nop => .plain s
  | .srst => .plain { State.resetWith s.par s.resets with coef := s.coef, bus := s.bus, readData := s.readData }
  | .clrAll => .plain { s with
      crc := crcInit, scnt := 0, dcnt := 0, elvl := true, dprv := true, psr := 0, pcnt := 0,
      xst := .searching, facc := [], flen := 0, xovl := false, dl := modStart.dl, acc := modStart.acc }
  | .qFlush m => .plain { s with
      obq := if m.getLsbD 0 then [] else s.obq
      oyq := if m.getLsbD 1 then [] else s.oyq
      ofq := if m.getLsbD 2 then [] else s.ofq
      frd := if m.getLsbD 2 then 0 else s.frd
      osq := if m.getLsbD 3 then [] else s.osq }
  | .frqDrop => .guard (!s.ofq.isEmpty) .qempty (.plain { s with ofq := s.ofq.tail, frd := 0 })
  | .crcClr => .plain { s with crc := crcInit }
  | .crcBit b => .plain { s with crc := crcStep s.crc b }
  | .crcByte v => .plain { s with crc := crcRun s.crc (msbFirst 8 v) }
  | .crcEmit => .obq (msbFirst 16 (crcSum s.crc)) s s
  | .pbClr => .plain { s with pbuf := [] }
  | .pbBit b => .pbuf [b] s
  | .pbByte v => .pbuf (msbFirst 8 v) s
  | .stfClr => .plain { s with scnt := 0 }
  | .stfBit b => .obq (stuffStep s.scnt b).2 s { s with scnt := (stuffStep s.scnt b).1 }
  | .dsfClr => .plain { s with dcnt := 0 }
  | .dsfBit b => .obq (destuffStep s.dcnt b).2 s { s with dcnt := (destuffStep s.dcnt b).1 }
  | .nzeClr => .plain { s with elvl := true }
  | .nzeBit b => .obq (nrziEncStep s.elvl b).2 s { s with elvl := (nrziEncStep s.elvl b).1 }
  | .nzdClr => .plain { s with dprv := true }
  | .nzdLvl v => .obq (nrziDecStep s.dprv (levelOf v)).2 s { s with dprv := (nrziDecStep s.dprv (levelOf v)).1 }
  | .pckClr => .plain { s with psr := 0, pcnt := 0 }
  | .pckBit b =>
    let r := packStep (s.psr, s.pcnt) b
    .oyq r.2 s { s with psr := r.1.1, pcnt := r.1.2 }
  | .xtrClr => .plain (setExtract extractStart s)
  | .xtrByte v =>
    let r := extractStep s.par.frameMax (extractUnit s) v
    .frame r.out r.drop s (setExtract r.unit s)
  | .modClr => .plain { s with dl := modStart.dl, acc := modStart.acc }
  | .modSym b => .modulator (List.replicate s.sps.toNat (sym b)) s
  | .modFlush => .modulator (List.replicate (8 * s.sps.toNat) .zero) s
  | .modTone n => .osq n (toneRun s s.acc n).2 s { s with acc := (toneRun s s.acc n).1 }
  | .modSil n => .osq n (silence n) s s
  | .txFrame =>
    let r := frameRun s.pbuf s.preambleLen.toNat
    .obq r.bits s { s with crc := r.crc, scnt := r.scnt }
  | .txLevels =>
    let r := levelRun s.pbuf s.preambleLen.toNat
    .obq r.levels s { s with crc := r.crc, scnt := r.scnt, elvl := r.elvl }
  | .txBurst =>
    let r := levelRun s.pbuf s.preambleLen.toNat
    let b := burst s r.levels
    let o := fitBurst s.fit s.bufLen.toNat b.2
    .guard (burstCfgOk s) .cfg (.osq o.1.length o.1 s (withEvent o.2 .trunc
      { s with crc := r.crc, scnt := r.scnt, elvl := r.elvl, dl := b.1.dl, acc := b.1.acc }))
  | .rxLvl v =>
    let r := rxStep s.par.frameMax (rxUnit s) v
    .frame r.out r.drop s (setRx r.unit s)
  | .rxEnd => .plain { s with
      dprv := true, dcnt := 0, psr := 0, pcnt := 0, xst := .searching, facc := [], flen := 0, xovl := false }

/-- Every command carries its plan out, its own word in the error record. -/
theorem exec_eq_plan (i : Instr) (s : State) : exec i s = .next ((plan i s).commit (encode i) s) := by
  cases i <;> rfl

/-- Everything a command can do: its whole effect with every test passed, or one error recorded on the unchanged
state. -/
theorem exec_cases {i : Instr} {s t : State} (h : exec i s = .next t) :
    ((plan i s).Passes ∧ t = (plan i s).result) ∨ ∃ k, t = raiseCmd k (encode i) s := by
  rw [exec_eq_plan, Host.Outcome.next.injEq] at h
  subst h
  exact (plan i s).commit_cases (encode i) s

end Sys2Proof.Machine
end

section
/-! PROOFS. What no command does: read a flag, change the configuration, take from a queue (10_state.md R19, R34, R36,
R37, section 5). Each follows from the command's plan; an error changes nothing but the error record. -/

namespace Sys2Proof.Machine

open Sys2Proof.Safety

/-! ### Flags (10_state.md R19) -/

/-- `s` with another error record. -/
def withErrors (e c : Word) (s : State) : State := { s with err := e, errcmd := c }

/-- No test of a command looks at the error record. -/
theorem plan_tests_withErrors (i : Instr) (e c : Word) (s : State) :
    (plan i (withErrors e c s)).tests = (plan i s).tests := by
  cases i <;> rfl

/-- The error record shows up in a command's effect only in the error record. -/
theorem plan_result_withErrors (i : Instr) (e c : Word) (s : State) :
    ∃ e' c', (plan i (withErrors e c s)).result = withErrors e' c' (plan i s).result := by
  cases i with
  | srst => exact ⟨0, 0, rfl⟩
  | xtrByte v =>
    refine ⟨if (extractStep s.par.frameMax (extractUnit s) v).drop then eventAfter .fovf e else e, c, ?_⟩
    simp only [plan, Plan.frame_result, withEvent_eq]
    rfl
  | rxLvl v =>
    refine ⟨if (rxStep s.par.frameMax (rxUnit s) v).drop then eventAfter .fovf e else e, c, ?_⟩
    simp only [plan, Plan.frame_result, withEvent_eq]
    rfl
  | txBurst =>
    refine ⟨if (fitBurst s.fit s.bufLen.toNat (burst s (levelRun s.pbuf s.preambleLen.toNat).levels).2).2
      then eventAfter .trunc e else e, c, ?_⟩
    simp only [plan, withEvent_eq]
    rfl
  | _ => exact ⟨e, c, rfl⟩

/-- Plans with the same tests, whose results differ in the error record only, leave states that differ only there. -/
theorem commit_withErrors {p q : Plan} (w e c : Word) (s : State) (ht : q.tests = p.tests)
    (hr : ∃ e' c', q.result = withErrors e' c' p.result) :
    ∃ e' c', q.commit w (withErrors e c s) = withErrors e' c' (p.commit w s) := by
  obtain ⟨tests, t⟩ := p
  obtain ⟨qtests, u⟩ := q
  obtain rfl : qtests = tests := ht
  induction qtests with
  | nil => exact hr
  | cons x rest ih =>
    obtain ⟨ok, k⟩ := x
    cases ok with
    | true => exact ih hr
    | false => exact ⟨errAfter k e, w, rfl⟩

/-- Settles O15: the tests of a command's plan do not see the error record, and its effect carries it along. -/
theorem commandsNeverReadFlags : Obligations.CommandsNeverReadFlags := by
  intro i s t e c h
  rw [exec_eq_plan, Host.Outcome.next.injEq] at h
  subst h
  obtain ⟨e', c', hc⟩ := commit_withErrors (encode i) e c s (plan_tests_withErrors i e c s)
    (plan_result_withErrors i e c s)
  exact ⟨e', c', (exec_eq_plan i (withErrors e c s)).trans (congrArg _ hc)⟩

/-! ### Configuration -/

/-- No whole effect but that of SRST touches the configuration. -/
theorem plan_sameSetup (i : Instr) (s : State) (hi : i ≠ .srst) : SameSetup s (plan i s).result := by
  cases i with
  | srst => exact absurd rfl hi
  | _ => simp [SameSetup, plan, withEvent_eq]

theorem exec_sameSetup {i : Instr} {s t : State} (h : exec i s = .next t) (hi : i ≠ .srst) : SameSetup s t := by
  rcases exec_cases h with ⟨-, rfl⟩ | ⟨k, rfl⟩
  · exact plan_sameSetup i s hi
  · simp [SameSetup]

/-- Settles O16: SRST is the one command that touches the configuration, and it keeps COEF and the constants. -/
theorem commandsKeepConfiguration : Obligations.CommandsKeepConfiguration := by
  intro i s t h
  refine ⟨exec_sameSetup h, ?_⟩
  by_cases hi : i = .srst
  · subst hi
    obtain rfl := Host.Outcome.next.inj h
    exact ⟨rfl, rfl, rfl⟩
  · obtain ⟨-, -, -, -, -, -, -, -, hcoef, hpar, hbus, -⟩ := exec_sameSetup h hi
    exact ⟨hcoef, hpar, hbus⟩

/-! ### Queues and the payload buffer -/

/-- The queues of `t` are those of `s` with more at the tail, and FRD stands where it stood. -/
def QueuesGrow (s t : State) : Prop :=
  s.obq <+: t.obq ∧ s.oyq <+: t.oyq ∧ s.ofq <+: t.ofq ∧ s.osq <+: t.osq ∧ t.frd = s.frd

theorem plan_queuesGrow (i : Instr) (s : State) (hsrst : i ≠ .srst) (hdrop : i ≠ .frqDrop)
    (hflush : ∀ m, i ≠ .qFlush m) :
    QueuesGrow s (plan i s).result := by
  cases i with
  | srst => exact absurd rfl hsrst
  | frqDrop => exact absurd rfl hdrop
  | qFlush m => exact absurd rfl (hflush m)
  | _ => simp [QueuesGrow, plan, withEvent_eq]

theorem plan_pbuf (i : Instr) (s : State) (hsrst : i ≠ .srst) (hclr : i ≠ .pbClr) (hbit : ∀ b, i ≠ .pbBit b)
    (hbyte : ∀ v, i ≠ .pbByte v) : (plan i s).result.pbuf = s.pbuf := by
  cases i with
  | srst => exact absurd rfl hsrst
  | pbClr => exact absurd rfl hclr
  | pbBit b => exact absurd rfl (hbit b)
  | pbByte v => exact absurd rfl (hbyte v)
  | _ => simp [plan, withEvent_eq]

/-- Settles O17: an effect pushes at the tails, and an error touches no queue and no payload. -/
theorem commandsOnlyAppendToQueues : Obligations.CommandsOnlyAppendToQueues := by
  intro i s t h
  rcases exec_cases h with ⟨-, rfl⟩ | ⟨k, rfl⟩
  · exact ⟨plan_queuesGrow i s, plan_pbuf i s⟩
  · simp

end Sys2Proof.Machine
end

section
/-! PROOFS. The registers the host sees: what a read leaves, what each field shows, what each write stores
(10_state.md R20 to R33; 45_system_and_queues.md R170, R177 to R181). -/

namespace Sys2Proof.Machine

open Sys2Proof.Safety

/-! ### What a read leaves -/

/-- What a read of a register can leave of the state `s` (45_system_and_queues.md R170, R177 to R181). -/
inductive ReadLeaves (s : State) : State → Prop where
  | unchanged : ReadLeaves s s
  | refused (k : ErrKind) : ReadLeaves s (raiseAccess k s)
  | obqPopped {b : Bool} {rest : List Bool} (hq : s.obq = b :: rest) : ReadLeaves s { s with obq := rest }
  | oyqPopped {y : Byte} {rest : List Byte} (hq : s.oyq = y :: rest) : ReadLeaves s { s with oyq := rest }
  | osqPopped {x : Sample} {rest : List Sample} (hq : s.osq = x :: rest) : ReadLeaves s { s with osq := rest }
  | byteRead {r : FrameRecord} {rest : List FrameRecord} (hq : s.ofq = r :: rest)
      (hlt : s.frd.toNat < r.bytes.length) : ReadLeaves s { s with frd := s.frd + 1 }
  | coefRead (hlt : s.caddr.toNat < Config.coefDepth) : ReadLeaves s { s with caddr := s.caddr + 1 }

theorem refusedRead_leaves (k : ErrKind) (s : State) : ReadLeaves s (refusedRead k s).1 := .refused k

theorem readObqPop_leaves (s : State) : ReadLeaves s (readObqPop s).1 := by
  cases hq : s.obq with
  | nil => simpa [readObqPop, hq] using refusedRead_leaves .qempty s
  | cons b rest => simpa [readObqPop, hq] using ReadLeaves.obqPopped hq

theorem readOyqPop_leaves (s : State) : ReadLeaves s (readOyqPop s).1 := by
  cases hq : s.oyq with
  | nil => simpa [readOyqPop, hq] using refusedRead_leaves .qempty s
  | cons y rest => simpa [readOyqPop, hq] using ReadLeaves.oyqPopped hq

theorem readOsqPop_leaves (s : State) : ReadLeaves s (readOsqPop s).1 := by
  cases hq : s.osq with
  | nil => simpa [readOsqPop, hq] using refusedRead_leaves .qempty s
  | cons x rest => simpa [readOsqPop, hq] using ReadLeaves.osqPopped hq

theorem readOfqData_leaves (s : State) : ReadLeaves s (readOfqData s).1 := by
  cases hq : s.ofq with
  | nil => simpa [readOfqData, hq] using refusedRead_leaves .qempty s
  | cons r rest =>
    cases hb : r.bytes[s.frd.toNat]? with
    | none => simpa [readOfqData, hq, hb] using refusedRead_leaves .qempty s
    | some y => simpa [readOfqData, hq, hb] using ReadLeaves.byteRead hq (List.getElem?_eq_some_iff.mp hb).1

theorem coefRead_leaves (s : State) : ReadLeaves s (coefRead s).1 := by
  by_cases hle : Config.coefDepth ≤ s.caddr.toNat
  · simpa only [Machine.coefRead, if_pos hle] using refusedRead_leaves .regacc s
  · simpa only [Machine.coefRead, if_neg hle] using ReadLeaves.coefRead (Nat.lt_of_not_le hle)

theorem regRead_leaves (n : Nat) (s : State) : ReadLeaves s (regRead n s).1 := by
  unfold regRead
  split
  case h_1 => exact refusedRead_leaves .regacc s
  case h_13 => exact coefRead_leaves s
  case h_21 => exact readObqPop_leaves s
  case h_23 => exact readOyqPop_leaves s
  case h_26 => exact readOfqData_leaves s
  case h_28 => exact readOsqPop_leaves s
  case h_30 => exact refusedRead_leaves .regacc s
  all_goals exact .unchanged

/-! ### Reset values (10_state.md R39) -/

/-- Settles O11: every register is written out in State.resetWith, and nothing is listed in COEF. -/
theorem resetValuesOfEveryRegister : Obligations.ResetValuesOfEveryRegister := by
  rintro p n s rfl
  have hlen : (State.resetWith p n).dl.length = 2048 := List.length_replicate
  have hdl : ∀ x ∈ (State.resetWith p n).dl, x = .zero := fun x hx => List.eq_of_mem_replicate hx
  have hcrc : stCrcView (State.resetWith p n) = 0x0000FFFF := by
    simp only [stCrcView, State.resetWith]
    decide
  have hcodec : stCodecView (State.resetWith p n) = 0x00000300 := by
    simp only [stCodecView, State.resetWith]
    decide
  have hstatus : statusView (State.resetWith p n) = 0 := by
    simp only [statusView, State.resetWith]
    decide
  exact ⟨rfl, rfl, rfl, rfl, rfl, rfl, rfl, rfl, rfl, rfl, rfl, hlen, hdl, rfl, rfl, rfl, rfl, rfl, rfl, rfl, rfl, rfl,
    rfl, rfl, rfl, rfl, rfl, rfl, rfl, rfl, fun _ => rfl, hcrc, hcodec, hstatus⟩

/-! ### ERR (10_state.md R30) -/

/-- The mask of the flags holds the bits {0,1,2,3,4,5,8,9}. -/
theorem errFlagMask_bits : ∀ i < 32, errFlagMask.getLsbD i = decide (i ∈ [0, 1, 2, 3, 4, 5, 8, 9]) := by decide

/-- Settles O13: bit by bit, w1cAfter clears what the mask and the written word have in common. -/
theorem writingOnesClearsErrFlags : Obligations.WritingOnesClearsErrFlags := by
  refine fun s v => ⟨w1cAfter v s.err, rfl, fun i hi => ?_⟩
  rw [w1cAfter, BitVec.getLsbD_and, BitVec.getLsbD_not, BitVec.getLsbD_and, errFlagMask_bits i hi, decide_eq_true hi,
    Bool.true_and, Bool.and_comm (v.getLsbD i)]

/-! ### Fields of a view -/

/-- A field that starts above the low part of a word stands in its high part. -/
theorem field_above {n k a len : Nat} {hi : BitVec n} {lo : BitVec k} {v : BitVec len}
    (h : hi.extractLsb' a len = v) : (hi ++ lo).extractLsb' (a + k) len = v := by
  rw [BitVec.extractLsb'_append_eq_of_le (Nat.le_add_left k a), Nat.add_sub_cancel, h]

/-- A bit above the low part of a word stands in its high part. -/
theorem bit_above {n k a : Nat} {hi : BitVec n} {lo : BitVec k} {b : Bool} (h : hi.getLsbD a = b) :
    (hi ++ lo).getLsbD (a + k) = b := by
  rw [BitVec.getLsbD_append, if_neg (Nat.not_lt.mpr (Nat.le_add_left k a)), Nat.add_sub_cancel, h]

/-- The lowest bit of a word that ends in a one-bit field. -/
theorem bit1_lowest {n : Nat} {hi : BitVec n} (b : Bool) : (hi ++ bit1 b).getLsbD 0 = b := by
  rw [BitVec.getLsbD_append, if_pos Nat.zero_lt_one]
  cases b <;> rfl

/-- The lowest bit of a word that ends in a reserved bit. -/
theorem reserved_lowest {n : Nat} {hi : BitVec n} : (hi ++ (0 : BitVec 1)).getLsbD 0 = false := by
  rw [BitVec.getLsbD_append, if_pos Nat.zero_lt_one]
  rfl

/-- The bits of STATUS (10_state.md R29), each found by passing the fields below it. -/
theorem statusView_bits (s : State) :
    (statusView s).getLsbD 0 = !s.obq.isEmpty ∧ (statusView s).getLsbD 1 = !s.oyq.isEmpty ∧
    (statusView s).getLsbD 2 = !s.ofq.isEmpty ∧ (statusView s).getLsbD 3 = !s.osq.isEmpty ∧
    (statusView s).getLsbD 4 = !s.pbuf.isEmpty ∧ (statusView s).getLsbD 5 = xstBit s.xst ∧
    (statusView s).extractLsb' 6 26 = 0 := by
  refine ⟨?_, ?_, ?_, ?_, ?_, ?_, ?_⟩
  case refine_7 =>
    iterate 6 apply field_above
    exact BitVec.extractLsb'_eq_self
  all_goals
    repeat apply bit_above
    exact bit1_lowest _

/-- The fields of ST_CODEC wider than a bit (10_state.md R32). -/
theorem stCodecView_fields (s : State) :
    (stCodecView s).extractLsb' 0 3 = s.scnt ∧ (stCodecView s).extractLsb' 4 3 = s.dcnt ∧
    (stCodecView s).extractLsb' 12 3 = s.pcnt ∧ (stCodecView s).extractLsb' 16 8 = s.psr := by
  refine ⟨?_, ?_, ?_, ?_⟩
  all_goals
    repeat apply field_above
    exact BitVec.extractLsb'_append_eq_right

/-- The one-bit fields of ST_CODEC (10_state.md R32). -/
theorem stCodecView_bits (s : State) :
    (stCodecView s).getLsbD 8 = s.elvl ∧ (stCodecView s).getLsbD 9 = s.dprv ∧
    (stCodecView s).getLsbD 24 = xstBit s.xst ∧ (stCodecView s).getLsbD 25 = s.xovl := by
  refine ⟨?_, ?_, ?_, ?_⟩
  all_goals
    repeat apply bit_above
    exact bit1_lowest _

/-- The reserved bits of ST_CODEC (10_state.md R32). -/
theorem stCodecView_reserved (s : State) :
    (stCodecView s).getLsbD 3 = false ∧ (stCodecView s).getLsbD 7 = false ∧
    (stCodecView s).extractLsb' 10 2 = 0 ∧ (stCodecView s).getLsbD 15 = false ∧
    (stCodecView s).extractLsb' 26 6 = 0 := by
  refine ⟨?_, ?_, ?_, ?_, ?_⟩
  case refine_3 =>
    repeat apply field_above
    exact BitVec.extractLsb'_append_eq_right
  case refine_5 =>
    iterate 12 apply field_above
    exact BitVec.extractLsb'_eq_self
  all_goals
    repeat apply bit_above
    exact reserved_lowest

theorem xstBit_iff (x : ExtractorState) : xstBit x = true ↔ x = .inFrame := by simp [xstBit]

theorem countView_toNat (cnt : Nat) : (countView cnt).toNat = min cnt (2 ^ 32 - 1) := by
  simp only [countView, BitVec.toNat_ofNat]
  omega

/-- ACC is shown in two halves. -/
theorem stAccViews_toNat (s : State) : (stAccHiView s).toNat * 2 ^ 32 + (stAccLoView s).toNat = s.acc.toNat := by
  have hacc := s.acc.isLt
  simp only [stAccHiView, stAccLoView, BitVec.toNat_setWidth, BitVec.extractLsb'_toNat, Nat.shiftRight_eq_div_pow]
  omega

/-- Settles O57: each field of a view is found in the word by passing the fields below it. -/
theorem viewsShowTheUnits : Obligations.ViewsShowTheUnits := by
  intro s
  obtain ⟨hobq, hoyq, hofq, hosq, hpbuf, hxst, hres⟩ := statusView_bits s
  obtain ⟨hscnt, hdcnt, hpcnt, hpsr⟩ := stCodecView_fields s
  obtain ⟨helvl, hdprv, hxst', hxovl⟩ := stCodecView_bits s
  obtain ⟨hres3, hres7, hres10, hres15, hres26⟩ := stCodecView_reserved s
  refine ⟨?_, rfl, rfl, ?_, ?_, ?_, ?_, stAccViews_toNat s, ?_, ?_, countView_toNat _, countView_toNat _,
    countView_toNat _, countView_toNat _⟩
  · intro n hn hside
    interval_cases n <;> simp at hside <;> rfl
  · rintro _ rfl
    simp only [regRead, hobq, hoyq, hofq, hosq, hpbuf, hxst, hres, xstBit_iff, Bool.not_eq_true',
      List.isEmpty_eq_false_iff, ne_eq, and_self]
  · exact ⟨BitVec.extractLsb'_append_eq_right, field_above (a := 0) BitVec.extractLsb'_eq_self⟩
  · rintro _ rfl
    exact ⟨hscnt, hdcnt, helvl, hdprv, hpcnt, hpsr, hxst' ▸ xstBit_iff s.xst, hxovl, hres3, hres7, hres10, hres15,
      hres26⟩
  · exact BitVec.toNat_setWidth_of_le (by decide)
  · exact fun hlen => Nat.mod_eq_of_lt hlen
  · exact fun hamp => Nat.mod_eq_of_lt (by omega)

/-! ### Configuration registers (10_state.md R20 to R28) -/

/-- A write to any register but CMD stores a field or is refused. -/
theorem regWrite_of_pos {n : Nat} (hn : 0 < n) (v : Word) (s : State) :
    regWrite n v s = .next (regWriteField n v s) := by
  cases n with
  | zero => exact absurd hn (Nat.lt_irrefl 0)
  | succ n => rfl

/-- The configuration registers, each with the mask of its field. -/
def configMasks : List (Nat × Word) :=
  [(4, 0x0000FFFF#32), (5, 0x000001FF#32), (6, 0xFFFFFFFF#32), (7, 0x00FFFFFF#32), (8, 0xFFFFFFFF#32),
    (9, 0x00FFFFFF#32), (10, 0x00000003#32), (11, 0x00000FFF#32)]

theorem configMasks_range : ∀ x ∈ configMasks, 4 ≤ x.1 ∧ x.1 ≤ 11 := by decide

/-- A field of `n` bits reads with 0 above it: as the written word under the field's mask. -/
theorem setWidth_setWidth_eq_and (n : Nat) (v : Word) :
    (v.setWidth n).setWidth 32 = v &&& (BitVec.allOnes n).setWidth 32 := by
  ext i hi
  simp [Bool.and_comm, BitVec.getLsbD_eq_getElem hi]

/-- A write to a configuration register stores in the configuration's fields and nowhere else. -/
theorem regWriteField_config {n : Nat} (hlo : 4 ≤ n) (hhi : n ≤ 11) (v : Word) (s : State) :
    ∃ a b c d e f g k, regWriteField n v s =
      { s with
        preambleLen := a, sps := b, phinc := c, wakeLen := d, wakePhinc := e, bufLen := f, fit := g, caddr := k } := by
  interval_cases n <;> exact ⟨_, _, _, _, _, _, _, _, rfl⟩

/-- Every other register reads as before: another configuration register shows another field, and the rest show none of
the configuration. -/
theorem regRead_other_of_config_write {n m : Nat} (hlo : 4 ≤ n) (hhi : n ≤ 11) (hne : m ≠ n)
    (hside : m ∉ [12, 20, 22, 25, 27]) (v : Word) (s : State) :
    (regRead m (regWriteField n v s)).2 = (regRead m s).2 := by
  by_cases hm : 4 ≤ m ∧ m ≤ 11
  · obtain ⟨hmlo, hmhi⟩ := hm
    interval_cases n <;> interval_cases m <;> simp at hne <;> rfl
  · obtain ⟨a, b, c, d, e, f, g, k, hw⟩ := regWriteField_config hlo hhi v s
    rw [hw]
    unfold regRead
    split <;> simp at hside hm <;> rfl

/-- A configuration register reads back the bits of its field. -/
theorem regRead_written_config {n : Nat} {mask : Word} (hn : (n, mask) ∈ configMasks) (v : Word) (s : State) :
    regRead n (regWriteField n v s) = (regWriteField n v s, v &&& mask) := by
  simp only [configMasks, List.mem_cons, List.not_mem_nil, Prod.mk.injEq, or_false] at hn
  rcases hn with ⟨rfl, rfl⟩ | ⟨rfl, rfl⟩ | ⟨rfl, rfl⟩ | ⟨rfl, rfl⟩ | ⟨rfl, rfl⟩ | ⟨rfl, rfl⟩ | ⟨rfl, rfl⟩ | ⟨rfl, rfl⟩
  · exact congrArg (Prod.mk _) (setWidth_setWidth_eq_and 16 v)
  · exact congrArg (Prod.mk _) (setWidth_setWidth_eq_and 9 v)
  · exact congrArg (Prod.mk _) BitVec.and_allOnes.symm
  · exact congrArg (Prod.mk _) (setWidth_setWidth_eq_and 24 v)
  · exact congrArg (Prod.mk _) BitVec.and_allOnes.symm
  · exact congrArg (Prod.mk _) (setWidth_setWidth_eq_and 24 v)
  · exact congrArg (Prod.mk _) (setWidth_setWidth_eq_and 2 v)
  · exact congrArg (Prod.mk _) (setWidth_setWidth_eq_and 12 v)

/-- Settles O54: a write to a configuration register reaches its own field only, and only its own register shows it. -/
theorem configurationReadsBackAsWritten : Obligations.ConfigurationReadsBackAsWritten := by
  refine ⟨fun v s => ?_, fun s => ?_, ?_⟩
  · simp [regWrite, regWriteField, BitVec.setWidth_eq_extractLsb']
  · simp [regRead, BitVec.setWidth_eq_append]
  · intro n mask hn v s
    obtain ⟨hlo, hhi⟩ := configMasks_range _ hn
    refine ⟨_, regWrite_of_pos (by omega) v s, regRead_written_config hn v s,
      fun m hne hside => regRead_other_of_config_write hlo hhi hne hside v s, ?_⟩
    obtain ⟨a, b, c, d, e, f, g, k, hw⟩ := regWriteField_config hlo hhi v s
    rw [hw]
    simp [SameTransmit, SameReceive]

end Sys2Proof.Machine
end

section
/-! PROOFS. The range of each unit under its step function: what the invariant of the whole state is assembled from. -/

namespace Sys2Proof.Machine

open Sys2Proof.Safety

/-! ### The error register (10_state.md R30) -/

/-- The reserved bits of ERR read 0 and LASTCODE is a code or 0: what Inv says of ERR. -/
structure ErrWf (e : Word) : Prop where
  reserved : e &&& errReserved = 0
  lastCode_le : (e.extractLsb' 16 8).toNat ≤ 6

/-- Setting bits outside the reserved ones and LASTCODE. -/
theorem ErrWf.or {e m : Word} (h : ErrWf e) (hr : m &&& errReserved = 0) (hl : m.extractLsb' 16 8 = 0#8) :
    ErrWf (e ||| m) where
  reserved := by rw [BitVec.and_or_distrib_right, h.reserved, hr]; rfl
  lastCode_le := by rw [BitVec.extractLsb'_or, hl, BitVec.or_zero]; exact h.lastCode_le

/-- Clearing bits outside LASTCODE. -/
theorem ErrWf.and {e m : Word} (h : ErrWf e) (hl : m.extractLsb' 16 8 = BitVec.allOnes 8) : ErrWf (e &&& m) where
  reserved := by
    rw [BitVec.and_assoc, BitVec.and_comm m, ← BitVec.and_assoc, h.reserved]
    exact BitVec.zero_and
  lastCode_le := by rw [BitVec.extractLsb'_and, hl, BitVec.and_allOnes]; exact h.lastCode_le

/-- LASTCODE after an error is its code. -/
theorem errAfter_lastCode (k : ErrKind) (e : Word) : (errAfter k e).extractLsb' 16 8 = (errCode k).setWidth 8 := by
  have hclr : (~~~lastCodeMask).extractLsb' 16 8 = 0#8 := by decide
  have hset : (errCode k <<< 16).extractLsb' 16 8 = (errCode k).setWidth 8 := by cases k <;> decide
  rw [errAfter, BitVec.extractLsb'_or, BitVec.extractLsb'_and, hclr, hset, BitVec.and_zero, BitVec.zero_or]

theorem errAfter_wf (k : ErrKind) {e : Word} (h : ErrWf e) : ErrWf (errAfter k e) where
  reserved := by
    have hbit : BitVec.twoPow 32 (errBit k) &&& errReserved = 0 := by cases k <;> decide
    have hcode : errCode k <<< 16 &&& errReserved = 0 := by cases k <;> decide
    rw [errAfter, BitVec.and_or_distrib_right, hcode, BitVec.and_assoc, BitVec.and_comm (~~~lastCodeMask),
      ← BitVec.and_assoc, BitVec.and_or_distrib_right, h.reserved, hbit]
    rfl
  lastCode_le := by rw [errAfter_lastCode]; cases k <;> decide

theorem eventAfter_wf (k : EventKind) {e : Word} (h : ErrWf e) : ErrWf (eventAfter k e) := by
  cases k <;> exact h.or (by decide) (by decide)

/-- A host write clears flags and never LASTCODE. -/
theorem w1cAfter_wf (v : Word) {e : Word} (h : ErrWf e) : ErrWf (w1cAfter v e) := by
  refine h.and ?_
  have hmask : errFlagMask.extractLsb' 16 8 = 0#8 := by decide
  rw [BitVec.extractLsb'_not_of_lt (by decide), BitVec.extractLsb'_and, hmask, BitVec.and_zero, BitVec.not_zero]

/-! ### Queues -/

/-- After `n` entries that fit, the queue is within its depth. -/
theorem room_add {d : Option Nat} {c n : Nat} (h : room d c 0 = true) (hf : fits d c n = true) :
    room d (c + n) 0 = true := by
  cases d with
  | none => rfl
  | some k =>
    simp only [room, fits, free, Option.map_some, decide_eq_true_eq] at *
    omega

/-- A shorter queue is within its depth too. -/
theorem room_of_le {d : Option Nat} {c c' : Nat} (h : room d c 0 = true) (hc : c' ≤ c) : room d c' 0 = true := by
  cases d with
  | none => rfl
  | some k =>
    simp only [room, decide_eq_true_eq] at *
    omega

/-! ### Stuffer and destuffer (10_state.md R12, R13) -/

theorem stuffStep_le (c : BitVec 3) (b : Bool) (h : c.toNat ≤ 4) : (stuffStep c b).1.toNat ≤ 4 := by
  revert c b; decide

theorem destuffStep_le (c : BitVec 3) (b : Bool) (h : c.toNat ≤ 6) : (destuffStep c b).1.toNat ≤ 6 := by
  revert c b; decide

/-- The stuffer's count after a whole frame. -/
theorem frameRun_scnt_le (payload : Bits) (n : Nat) : (frameRun payload n).scnt.toNat ≤ 4 :=
  run_invariant stuffStep (fun c => c.toNat ≤ 4) stuffStep_le 0 _ (by decide)

/-! ### Packer (10_state.md R15) -/

/-- The packer's register has nothing at and above the bit it fills next. -/
theorem packStep_lt (p : BitVec 8 × BitVec 3) (b : Bool) (h : p.1.toNat < 2 ^ p.2.toNat) :
    (packStep p b).1.1.toNat < 2 ^ (packStep p b).1.2.toNat := by
  obtain ⟨x, c⟩ := p
  by_cases hc : c = 7
  · simp [packStep, hc]
  · have hc1 : (c + 1).toNat = c.toNat + 1 := by clear h; revert c; decide
    have hshift : (x <<< 1).toNat < 2 ^ (c.toNat + 1) := by
      rw [BitVec.toNat_shiftLeft, Nat.shiftLeft_eq, pow_succ]
      exact (Nat.mod_le _ _).trans_lt (Nat.mul_lt_mul_of_pos_right h (by decide))
    have hbit : ((bitOf b).setWidth 8).toNat < 2 ^ (c.toNat + 1) :=
      calc ((bitOf b).setWidth 8).toNat < 2 ^ 1 := by cases b <;> decide
        _ ≤ 2 ^ (c.toNat + 1) := Nat.pow_le_pow_right (by decide) (by omega)
    simp only [packStep, if_neg hc, BitVec.toNat_or, hc1]
    exact Nat.or_lt_two_pow hshift hbit

/-! ### Extractor (10_state.md R16) -/

/-- What Inv says of the extractor's registers, `fm` the capacity of the accumulator. -/
structure ExtractWf (fm : Nat) (x : ExtractUnit) : Prop where
  acc_le : x.acc.length ≤ fm
  searching_empty : x.st = .searching → x.acc = [] ∧ x.ovl = false
  overlong_full : x.ovl = true → x.acc.length = fm

theorem extractStart_wf (fm : Nat) : ExtractWf fm extractStart where
  acc_le := Nat.zero_le fm
  searching_empty _ := ⟨rfl, rfl⟩
  overlong_full h := nomatch h

theorem extractStep_wf {fm : Nat} {x : ExtractUnit} (v : Byte) (h : ExtractWf fm x) :
    ExtractWf fm (extractStep fm x v).unit := by
  rcases extractStep_cases fm x v with ⟨-, hu⟩ | ⟨-, -, -, ⟨-, hu⟩ | ⟨-, hlt, hu⟩ | ⟨-, hge, hu⟩⟩ <;> rw [hu]
  case inl => exact ⟨Nat.zero_le fm, nofun, nofun⟩
  case inr.inl => exact extractStart_wf fm
  case inr.inr.inl =>
    refine ⟨by simpa using hlt, nofun, fun hovl => ?_⟩
    have := h.overlong_full hovl
    omega
  case inr.inr.inr => exact ⟨h.acc_le, nofun, fun _ => Nat.le_antisymm h.acc_le hge⟩

/-- What Inv says of one record of OFQ (10_state.md R37). -/
def RecordWf (fm : Nat) (r : FrameRecord) : Prop := 3 ≤ r.bytes.length ∧ r.bytes.length ≤ fm ∧ r.ok = verifyOk r.bytes

/-- A frame the extractor emits makes a record in range. -/
theorem extractStep_record {fm : Nat} {x : ExtractUnit} (v : Byte) (h : ExtractWf fm x) :
    ∀ r ∈ (extractStep fm x v).out.toList.map recordOf, RecordWf fm r := by
  intro r hr
  obtain ⟨fr, hfr, rfl⟩ := List.mem_map.mp hr
  obtain ⟨-, -, -, hlen, rfl⟩ := extractStep_out fm x v fr (Option.mem_toList.mp hfr)
  exact ⟨hlen, h.acc_le, rfl⟩

/-! ### Receive chain -/

/-- What Inv says of the receive chain's registers. -/
structure RxWf (fm : Nat) (x : RxUnit) : Prop where
  dcnt_le : x.dcnt.toNat ≤ 6
  psr_lt : x.psr.toNat < 2 ^ x.pcnt.toNat
  ext : ExtractWf fm x.ext

theorem rxStep_wf {fm : Nat} {x : RxUnit} (v : Byte) (h : RxWf fm x) :
    RxWf fm (rxStep fm x v).unit ∧ ∀ r ∈ (rxStep fm x v).out.toList.map recordOf, RecordWf fm r := by
  have hd := destuffStep_le x.dcnt (decide (x.dprv = levelOf v)) h.dcnt_le
  have hp := fun b => packStep_lt (x.psr, x.pcnt) b h.psr_lt
  rcases rxStep_cases fm x v _ _ _ rfl rfl rfl with ⟨-, hr⟩ | ⟨b, -, -, hr⟩ | ⟨b, y, -, -, hr⟩ <;> rw [hr]
  · exact ⟨⟨hd, h.psr_lt, h.ext⟩, by simp⟩
  · exact ⟨⟨hd, hp b, h.ext⟩, by simp⟩
  · exact ⟨⟨hd, hp b, extractStep_wf y h.ext⟩, extractStep_record y h.ext⟩

/-! ### Samples (43_gmsk_modulator.md R137 (a)) -/

/-- A sample the block may push: an entry of the table, or silent. -/
def TableOrSilent (lut : List Sample) (x : Sample) : Prop := x = Sample.silent ∨ x ∈ lut

theorem sampleGen_tableOrSilent (lut : List Sample) (acc : BitVec 56) : TableOrSilent lut (sampleGen lut acc) := by
  rw [sampleGen, List.getD_eq_getElem?_getD]
  cases h : lut[(acc >>> 44).toNat]? with
  | none => exact .inl rfl
  | some x => exact .inr (List.mem_of_getElem? h)

/-- What every output of every step has, every output of a run has. -/
theorem run_output {σ α β : Type} (f : σ → α → σ × List β) (P : β → Prop) (h : ∀ s a, ∀ y ∈ (f s a).2, P y) (s : σ)
    (xs : List α) : ∀ y ∈ (run f s xs).2, P y := by
  induction xs generalizing s with
  | nil => simp
  | cons a rest ih =>
    simp only [run_cons, List.forall_mem_append]
    exact ⟨h s a, ih _⟩

theorem modRun_tableOrSilent (s : State) (m : ModUnit) (us : List Tap) :
    ∀ x ∈ (modRun s m us).2, TableOrSilent s.par.lut x :=
  run_output _ _ (fun _ _ => by simp [modSample, sampleGen_tableOrSilent]) m us

theorem toneRun_tableOrSilent (s : State) (acc : BitVec 56) (n : Nat) :
    ∀ x ∈ (toneRun s acc n).2, TableOrSilent s.par.lut x :=
  run_output _ _ (fun _ _ => by simp [toneSample, sampleGen_tableOrSilent]) acc _

theorem silence_tableOrSilent (lut : List Sample) (n : Nat) : ∀ x ∈ silence n, TableOrSilent lut x :=
  fun _ hx => .inl (List.eq_of_mem_replicate hx)

theorem burst_tableOrSilent (s : State) (levels : Bits) : ∀ x ∈ (burst s levels).2, TableOrSilent s.par.lut x :=
  List.forall_mem_append.mpr ⟨toneRun_tableOrSilent s _ _, modRun_tableOrSilent s _ _⟩

/-- Fitting repeats, cuts and pads with silence, and makes no sample of its own. -/
theorem fitBurst_tableOrSilent (lut : List Sample) (fit : BitVec 2) (bufLen : Nat) (b : List Sample)
    (h : ∀ x ∈ b, TableOrSilent lut x) : ∀ x ∈ (fitBurst fit bufLen b).1, TableOrSilent lut x := by
  have hcut : ∀ x ∈ b.take bufLen, TableOrSilent lut x := fun x hx => h x (List.mem_of_mem_take hx)
  have hpad := fun n => silence_tableOrSilent lut n
  have hrep : ∀ k, ∀ x ∈ (List.replicate k b).flatten, TableOrSilent lut x := by
    intro k x hx
    obtain ⟨l, hl, hxl⟩ := List.mem_flatten.mp hx
    exact h x (List.eq_of_mem_replicate hl ▸ hxl)
  unfold fitBurst
  dsimp only
  split_ifs
  · exact h
  · exact List.forall_mem_append.mpr ⟨h, hpad _⟩
  · exact hcut
  · exact List.forall_mem_append.mpr ⟨hrep _, hpad _⟩
  · exact hcut

/-- A burst leaves a full delay line. -/
theorem burst_dl_length (s : State) (levels : Bits) : (burst s levels).1.dl.length = Config.dlLen :=
  modRun_dl_length s _ _ List.length_replicate

end Sys2Proof.Machine
end

section
/-! PROOFS. The invariant of the whole state: reset establishes it, and every command, every access and every step keeps
it (10_state.md; 43_gmsk_modulator.md R137 (a)). -/

namespace Sys2Proof.Safety

open Sys2Proof.Machine

/-! ### Reset (10_state.md R39) -/

/-- The constants of the test vectors meet 00_scope.md section 4 and, entry by entry, the named properties of the table
(43_gmsk_modulator.md R127). -/
theorem vectorParams_meet_constraints : vectorParams.wf = true := by decide +kernel

theorem room_empty (d : Option Nat) : room d 0 0 = true := by cases d <;> simp [room]

theorem resetWith_inv (p : Params) (n : Nat) (hp : p.wf = true) : Inv (State.resetWith p n) where
  par_wf := hp
  scnt_le := Nat.zero_le 4
  dcnt_le := Nat.zero_le 6
  psr_lt := Nat.one_pos
  flen_eq := rfl
  facc_le := Nat.zero_le _
  searching_empty _ := ⟨rfl, rfl⟩
  overlong_full := nofun
  dl_len := List.length_replicate
  coef_wf := resetWith_coef_wf p n
  pbuf_le := Nat.zero_le _
  obq_room := room_empty _
  oyq_room := room_empty _
  ofq_room := room_empty _
  osq_room := room_empty _
  ofq_records := nofun
  frd_le := Nat.le_refl 0
  osq_samples := nofun
  err_reserved := BitVec.zero_and
  lastCode_le := (by decide : ((0 : Word).extractLsb' 16 8).toNat ≤ 6)

/-- Settles O10: a reset state is in range whenever its constants are, and those of State.reset are. -/
theorem resetMeetsInv : Obligations.ResetMeetsInv :=
  ⟨resetWith_inv vectorParams 0 vectorParams_meet_constraints, resetWith_inv⟩

/-! ### What the invariant says of one unit -/

section Units

variable {s : State} (h : Inv s)
include h

/-- FRAME_MAX fits FLEN's 16 bits (00_scope.md section 4). -/
theorem Inv.frameMax_le : s.par.frameMax ≤ 65535 := by
  have hp := h.par_wf
  simp only [Params.wf, Bool.and_eq_true, decide_eq_true_eq] at hp
  omega

theorem Inv.err_wf : ErrWf s.err := ⟨h.err_reserved, h.lastCode_le⟩

theorem Inv.extract_wf : ExtractWf s.par.frameMax (extractUnit s) := ⟨h.facc_le, h.searching_empty, h.overlong_full⟩

theorem Inv.rx_wf : RxWf s.par.frameMax (rxUnit s) := ⟨h.dcnt_le, h.psr_lt, h.extract_wf⟩

/-! ### One rule per state operation -/

theorem Inv.withErr {e : Word} (he : ErrWf e) : Inv { s with err := e } :=
  { h with err_reserved := he.reserved, lastCode_le := he.lastCode_le }

theorem Inv.raiseAccess (k : ErrKind) : Inv (raiseAccess k s) := h.withErr (errAfter_wf k h.err_wf)

theorem Inv.raiseCmd (k : ErrKind) (w : Word) : Inv (raiseCmd k w s) := { h.raiseAccess k with }

theorem Inv.clearErr (v : Word) : Inv (clearErr v s) := h.withErr (w1cAfter_wf v h.err_wf)

theorem Inv.withEvent (met : Bool) (k : EventKind) : Inv (withEvent met k s) := by
  cases met with
  | false => exact h
  | true => exact h.withErr (eventAfter_wf k h.err_wf)

theorem Inv.pushObq {out : Bits} (hf : fitsObq s out.length = true) : Inv (pushObq out s) :=
  { h with obq_room := by simpa using room_add h.obq_room hf }

theorem Inv.pushOyq {out : List Byte} (hf : fitsOyq s out.length = true) : Inv (pushOyq out s) :=
  { h with oyq_room := by simpa using room_add h.oyq_room hf }

/-- A record pushed behind a head record leaves FRD inside it; pushed to an empty queue it finds FRD at 0. -/
theorem Inv.pushOfq {out : List FrameRecord} (hf : fitsOfq s out.length = true)
    (hr : ∀ r ∈ out, RecordWf s.par.frameMax r) : Inv (pushOfq out s) :=
  { h with
    ofq_room := by simpa using room_add h.ofq_room hf
    ofq_records := List.forall_mem_append.mpr ⟨h.ofq_records, hr⟩
    frd_le := by
      have hfrd := h.frd_le
      cases hq : s.ofq with
      | nil =>
        rw [hq] at hfrd
        exact hfrd.trans (Nat.zero_le _)
      | cons r rest => simpa [hq] using hfrd }

theorem Inv.pushOsq {out : List Sample} (hf : fitsOsq s out.length = true)
    (hx : ∀ x ∈ out, TableOrSilent s.par.lut x) : Inv (pushOsq out s) :=
  { h with
    osq_room := by simpa using room_add h.osq_room hf
    osq_samples := List.forall_mem_append.mpr ⟨h.osq_samples, hx⟩ }

theorem Inv.setExtract {x : ExtractUnit} (hx : ExtractWf s.par.frameMax x) : Inv (setExtract x s) :=
  { h with
    flen_eq := by
      have hle : x.acc.length ≤ 65535 := hx.acc_le.trans h.frameMax_le
      simp only [setExtract_flen, setExtract_facc, BitVec.toNat_ofNat]
      omega
    facc_le := hx.acc_le
    searching_empty := hx.searching_empty
    overlong_full := hx.overlong_full }

theorem Inv.setRx {x : RxUnit} (hx : RxWf s.par.frameMax x) : Inv (setRx x s) :=
  Inv.setExtract (s := { s with dprv := x.dprv, dcnt := x.dcnt, psr := x.psr, pcnt := x.pcnt })
    { h with dcnt_le := hx.dcnt_le, psr_lt := hx.psr_lt } hx.ext

theorem Inv.withOfqTail : Inv { s with ofq := s.ofq.tail, frd := 0 } :=
  { h with
    ofq_room := room_of_le h.ofq_room (by simp)
    ofq_records := fun r hr => h.ofq_records r (List.mem_of_mem_tail hr)
    frd_le := Nat.zero_le _ }

end Units

/-! ### Plans -/

/-- Bits that fit, pushed to the state `t` the unit's registers make of `s`. -/
theorem obq_inv {out : Bits} {s t : State} (hp : (Plan.obq out s t).Passes) (ht : Inv t)
    (hfits : fitsObq t = fitsObq s) : Inv (Plan.obq out s t).result :=
  ht.pushObq (by simpa [hfits] using hp)

theorem oyq_inv {out : List Byte} {s t : State} (hp : (Plan.oyq out s t).Passes) (ht : Inv t)
    (hfits : fitsOyq t = fitsOyq s) : Inv (Plan.oyq out s t).result :=
  ht.pushOyq (by simpa [hfits] using hp)

theorem osq_inv {n : Nat} {out : List Sample} {s t : State} (hp : (Plan.osq n out s t).Passes) (ht : Inv t)
    (hfits : fitsOsq t = fitsOsq s) (hn : out.length = n) (hx : ∀ x ∈ out, TableOrSilent t.par.lut x) :
    Inv (Plan.osq n out s t).result :=
  ht.pushOsq (by simpa [hfits, hn] using hp) hx

theorem frame_inv {out : Option (List Byte)} {drop : Bool} {s t : State} (hp : (Plan.frame out drop s t).Passes)
    (ht : Inv t) (hfits : fitsOfq t = fitsOfq s) (hr : ∀ r ∈ out.toList.map recordOf, RecordWf t.par.frameMax r) :
    Inv (Plan.frame out drop s t).result :=
  (ht.withEvent drop .fovf).pushOfq (by simpa [hfits] using hp) (by rwa [withEvent_par])

/-- A modulator run leaves a full delay line and any phase, and its samples come from the table. -/
theorem modulator_inv {us : List Tap} {s : State} (hp : (Plan.modulator us s).Passes) (h : Inv s) :
    Inv (Plan.modulator us s).result := by
  obtain ⟨-, hp⟩ := (Plan.guard_passes _ _ _).mp hp
  exact osq_inv hp { h with dl_len := modRun_dl_length s _ us h.dl_len } rfl (modRun_length s _ us)
    (modRun_tableOrSilent s _ us)

/-- TX.BURST leaves the units as its run left them, and its event and fitting bring no sample from elsewhere. -/
theorem burst_inv {s : State} (hp : (plan .txBurst s).Passes) (h : Inv s) : Inv (plan .txBurst s).result := by
  obtain ⟨-, hp⟩ := (Plan.guard_passes _ _ _).mp hp
  refine osq_inv hp (Inv.withEvent ?_ _ _) (fitsOsq_withEvent _ _ _) rfl ?_
  · exact { h with
      scnt_le := frameRun_scnt_le s.pbuf s.preambleLen.toNat, dl_len := burst_dl_length s _ }
  · rw [withEvent_par]
    exact fitBurst_tableOrSilent _ _ _ _ (burst_tableOrSilent s _)

/-- A queue that Q.FLUSH may have emptied. -/
theorem flushed_sublist {α : Type} (c : Bool) (q : List α) : List.Sublist (if c then [] else q) q := by
  cases c <;> simp

theorem flush_inv (m : BitVec 4) {s : State} (h : Inv s) : Inv (plan (.qFlush m) s).result :=
  { h with
    obq_room := room_of_le h.obq_room (flushed_sublist _ _).length_le
    oyq_room := room_of_le h.oyq_room (flushed_sublist _ _).length_le
    ofq_room := room_of_le h.ofq_room (flushed_sublist _ _).length_le
    osq_room := room_of_le h.osq_room (flushed_sublist _ _).length_le
    ofq_records := fun r hr => h.ofq_records r ((flushed_sublist _ _).subset hr)
    frd_le := by
      simp only [plan, Plan.plain_result]
      cases m.getLsbD 2 with
      | false => exact h.frd_le
      | true => exact Nat.zero_le _
    osq_samples := fun x hx => h.osq_samples x ((flushed_sublist _ _).subset hx) }

/-! ### Commands -/

/-- The whole effect of a command whose tests pass keeps the invariant. -/
theorem plan_inv (i : Instr) {s : State} (h : Inv s) (hp : (plan i s).Passes) : Inv (plan i s).result := by
  cases i with
  | nop => exact h
  | srst => exact { resetWith_inv s.par s.resets h.par_wf with coef_wf := h.coef_wf }
  | clrAll =>
    exact { Inv.setExtract h (extractStart_wf _) with
      scnt_le := Nat.zero_le 4, dcnt_le := Nat.zero_le 6, psr_lt := Nat.one_pos, dl_len := List.length_replicate }
  | qFlush m => exact flush_inv m h
  | frqDrop => exact h.withOfqTail
  | crcClr => exact { h with }
  | crcBit b => exact { h with }
  | crcByte v => exact { h with }
  | crcEmit => exact obq_inv hp h rfl
  | pbClr => exact { h with pbuf_le := Nat.zero_le _ }
  | pbBit b => exact { h with pbuf_le := by simpa [plan] using hp }
  | pbByte v => exact { h with pbuf_le := by simpa [plan] using hp }
  | stfClr => exact { h with scnt_le := Nat.zero_le 4 }
  | stfBit b => exact obq_inv hp { h with scnt_le := stuffStep_le _ b h.scnt_le } rfl
  | dsfClr => exact { h with dcnt_le := Nat.zero_le 6 }
  | dsfBit b => exact obq_inv hp { h with dcnt_le := destuffStep_le _ b h.dcnt_le } rfl
  | nzeClr => exact { h with }
  | nzeBit b => exact obq_inv hp { h with } rfl
  | nzdClr => exact { h with }
  | nzdLvl v => exact obq_inv hp { h with } rfl
  | pckClr => exact { h with psr_lt := Nat.one_pos }
  | pckBit b => exact oyq_inv hp { h with psr_lt := packStep_lt _ b h.psr_lt } rfl
  | xtrClr => exact h.setExtract (extractStart_wf _)
  | xtrByte v =>
    exact frame_inv hp (h.setExtract (extractStep_wf v h.extract_wf)) rfl (extractStep_record v h.extract_wf)
  | modClr => exact { h with dl_len := List.length_replicate }
  | modSym b => exact modulator_inv hp h
  | modFlush => exact modulator_inv hp h
  | modTone n => exact osq_inv hp { h with } rfl (toneRun_length s _ n) (toneRun_tableOrSilent s _ n)
  | modSil n => exact osq_inv hp h rfl List.length_replicate (silence_tableOrSilent _ n)
  | txFrame => exact obq_inv hp { h with scnt_le := frameRun_scnt_le s.pbuf s.preambleLen.toNat } rfl
  | txLevels => exact obq_inv hp { h with scnt_le := frameRun_scnt_le s.pbuf s.preambleLen.toNat } rfl
  | txBurst => exact burst_inv hp h
  | rxLvl v =>
    obtain ⟨hwf, hrec⟩ := rxStep_wf v h.rx_wf
    exact frame_inv hp (h.setRx hwf) rfl hrec
  | rxEnd => exact Inv.setRx (x := rxStart) h ⟨Nat.zero_le 6, Nat.one_pos, extractStart_wf _⟩

theorem exec_inv {i : Instr} {s t : State} (h : Inv s) (ht : exec i s = .next t) : Inv t := by
  rcases exec_cases ht with ⟨hp, rfl⟩ | ⟨k, rfl⟩
  · exact plan_inv i h hp
  · exact h.raiseCmd k _

theorem execute_inv {w : Word} {s t : State} (h : Inv s) (ht : execute w s = .next t) : Inv t := by
  unfold execute at ht
  split at ht
  · exact exec_inv h ht
  · obtain rfl := Host.Outcome.next.inj ht
    exact h.raiseCmd _ _

/-! ### Host accesses (45_system_and_queues.md R170, R177 to R181) -/

/-- A register write stores a field as it is, clears flags, writes COEF or is refused. -/
theorem regWriteField_inv (n : Nat) (v : Word) {s : State} (h : Inv s) : Inv (regWriteField n v s) := by
  unfold regWriteField
  split
  case h_1 => exact h.clearErr v
  case h_10 =>
    rcases coefWrite_cases v s with ⟨-, e⟩ | ⟨hk, e⟩ <;> rw [e]
    · exact h.raiseAccess _
    · exact { h with coef_wf := coefInsert_wf _ _ _ hk h.coef_wf }
  case h_11 => exact h.raiseAccess _
  all_goals exact { h with }

/-- A queue without its head is within its depth. -/
theorem room_of_cons {α : Type} {d : Option Nat} {q rest : List α} {x : α} (h : room d q.length 0 = true)
    (hq : q = x :: rest) : room d rest.length 0 = true :=
  room_of_le h (by simp [hq])

/-- Reading a byte moves FRD to the end of the head record at most, and the end fits 16 bits. -/
theorem byteRead_inv {s : State} {r : FrameRecord} {rest : List FrameRecord} (h : Inv s) (hq : s.ofq = r :: rest)
    (hlt : s.frd.toNat < r.bytes.length) : Inv { s with frd := s.frd + 1 } :=
  { h with
    frd_le := by
      obtain ⟨-, hle, -⟩ := h.ofq_records r (by simp [hq])
      have hfm := h.frameMax_le
      have hnext : (s.frd + 1).toNat = s.frd.toNat + 1 := by bv_omega
      change (s.frd + 1).toNat ≤ _
      rw [hnext, hq]
      exact hlt }

theorem readLeaves_inv {s t : State} (h : Inv s) (hr : ReadLeaves s t) : Inv t := by
  cases hr with
  | unchanged => exact h
  | refused k => exact h.raiseAccess k
  | obqPopped hq => exact { h with obq_room := room_of_cons h.obq_room hq }
  | oyqPopped hq => exact { h with oyq_room := room_of_cons h.oyq_room hq }
  | osqPopped hq =>
    exact { h with
      osq_room := room_of_cons h.osq_room hq
      osq_samples := fun x hx => h.osq_samples x (hq ▸ List.mem_cons_of_mem _ hx) }
  | byteRead hq hlt => exact byteRead_inv h hq hlt
  | coefRead => exact { h with }

/-- One access: a command, a register write, a read, or the reset that starts anew. -/
theorem perform_inv {a : Access} {s t : State} (h : Inv s) (ht : perform a s = .next t) : Inv t := by
  cases a with
  | write n v =>
    cases n with
    | zero => exact execute_inv h ht
    | succ n =>
      obtain rfl := Host.Outcome.next.inj ht
      exact regWriteField_inv (n + 1) v h
  | read n =>
    obtain rfl := Host.Outcome.next.inj ht
    exact { readLeaves_inv h (regRead_leaves n s) with }
  | hardwareReset =>
    obtain rfl := Host.Outcome.next.inj ht
    exact { resetWith_inv s.par (s.resets + 1) h.par_wf with }

/-- Settles O9: accepting the next access changes no unit, and performing it keeps every range. -/
theorem stepKeepsInv : Obligations.StepKeepsInv := by
  intro s t h ht
  cases hbus : s.bus with
  | nil =>
    simp only [step, hbus] at ht
    obtain rfl := Host.Outcome.next.inj ht
    exact h
  | cons a rest =>
    simp only [step, hbus] at ht
    exact perform_inv (s := accept rest s) { h with } ht

end Sys2Proof.Safety
end

section
/-! PROOFS. Every access completes (20_memory.md R44, R46; 45_system_and_queues.md R171): it is answered with a next
state, in which the accesses after it still pend and the hardware constants stand. -/

namespace Sys2Proof.Machine

/-- The pending accesses and the hardware constants are in `t` those of `s`. -/
def SameBusAndPar (s t : State) : Prop := t.bus = s.bus ∧ t.par = s.par

/-- The answer `o` is a next state, with the pending accesses and the hardware constants of `s`. -/
def CompletesWithin (s : State) (o : Answer) : Prop := ∃ t, o = .next t ∧ SameBusAndPar s t

theorem SameBusAndPar.next_completesWithin {s t : State} (h : SameBusAndPar s t) : CompletesWithin s (.next t) :=
  ⟨t, rfl, h⟩

/-- A command's plan always has a next state, and no command touches the two fields. -/
theorem exec_completesWithin (i : Instr) (s : State) : CompletesWithin s (exec i s) := by
  have hnext := exec_eq_plan i s
  obtain ⟨-, -, hpar, hbus⟩ := commandsKeepConfiguration i s _ hnext
  exact ⟨_, hnext, hbus, hpar⟩

/-- A word that decodes runs its command, and any other is recorded as E_ILLCMD. -/
theorem execute_completesWithin (w : Word) (s : State) : CompletesWithin s (execute w s) := by
  unfold execute
  split
  · exact exec_completesWithin _ s
  · exact SameBusAndPar.next_completesWithin ⟨rfl, rfl⟩

theorem coefWrite_sameBusAndPar (v : Word) (s : State) : SameBusAndPar s (coefWrite v s) := by
  rcases coefWrite_cases v s with ⟨-, e⟩ | ⟨-, e⟩ <;> rw [e]
  · exact ⟨raiseAccess_bus s .regacc, raiseAccess_par s .regacc⟩
  · exact ⟨rfl, rfl⟩

theorem regWriteField_sameBusAndPar (n : Nat) (v : Word) (s : State) : SameBusAndPar s (regWriteField n v s) := by
  unfold regWriteField
  split
  case h_10 => exact coefWrite_sameBusAndPar v s
  all_goals exact ⟨rfl, rfl⟩

theorem ReadLeaves.sameBusAndPar {s t : State} (h : ReadLeaves s t) : SameBusAndPar s t := by
  cases h <;> exact ⟨rfl, rfl⟩

theorem hostRead_sameBusAndPar (n : Nat) (s : State) : SameBusAndPar s (hostRead n s) :=
  (regRead_leaves n s).sameBusAndPar

theorem hardwareReset_sameBusAndPar (s : State) : SameBusAndPar s (hardwareReset s) := ⟨rfl, rfl⟩

theorem regWrite_completesWithin (n : Nat) (v : Word) (s : State) : CompletesWithin s (regWrite n v s) := by
  cases n with
  | zero => exact execute_completesWithin v s
  | succ n => exact (regWriteField_sameBusAndPar (n + 1) v s).next_completesWithin

/-- Every access completes: a write, a read and the reset input alike (log entry 9). -/
theorem perform_completesWithin (a : Access) (s : State) : CompletesWithin s (perform a s) := by
  cases a with
  | write n v => exact regWrite_completesWithin n v s
  | read n => exact (hostRead_sameBusAndPar n s).next_completesWithin
  | hardwareReset => exact (hardwareReset_sameBusAndPar s).next_completesWithin

/-- Settles O8: accepting the first pending access takes it off the bus, and performing it completes without touching
what is still pending; with none pending the step is the state itself. -/
theorem everyStepCompletes : Obligations.EveryStepCompletes := by
  intro s
  cases hbus : s.bus with
  | nil => exact ⟨s, by simp only [step, hbus], hbus, rfl⟩
  | cons a rest =>
    obtain ⟨t, ht, htbus, htpar⟩ := perform_completesWithin a (accept rest s)
    have hstep : step s = .next t := by simpa only [step, hbus] using ht
    exact ⟨t, hstep, htbus.trans (accept_bus s rest), htpar.trans (accept_par s rest)⟩

end Sys2Proof.Machine
end

section
/-! PROOFS. The two fields of a command word and the five formats (30_encoding.md R60 to R62): what a format's test says
of the argument field, and which argument fields pass it. -/

namespace Sys2Proof

/-! ### The fields of a word (30_encoding.md R60) -/

@[simp] theorem opcOf_mkWord (opc : BitVec 8) (arg : BitVec 24) : opcOf (mkWord opc arg) = opc :=
  BitVec.extractLsb'_append_eq_left

@[simp] theorem argOf_mkWord (opc : BitVec 8) (arg : BitVec 24) : argOf (mkWord opc arg) = arg :=
  BitVec.extractLsb'_append_eq_right

@[simp] theorem mkWord_opcOf_argOf (w : Word) : mkWord (opcOf w) (argOf w) = w := by
  refine BitVec.eq_of_toNat_eq ?_
  have hlow : (argOf w).toNat < 2 ^ 24 := (argOf w).isLt
  rw [mkWord, BitVec.toNat_append, ← Nat.shiftLeft_add_eq_or_of_lt hlow]
  simp only [opcOf, argOf, BitVec.extractLsb'_toNat, Nat.shiftLeft_eq, Nat.shiftRight_eq_div_pow]
  omega

/-- A word is the one its two fields make. -/
theorem mkWord_eq_of_fields {w : Word} {opc : BitVec 8} {arg : BitVec 24} (hopc : (opcOf w).toNat = opc.toNat)
    (harg : argOf w = arg) : mkWord opc arg = w := by
  rw [← BitVec.eq_of_toNat_eq hopc, ← harg, mkWord_opcOf_argOf]

theorem eq_iff_fields (v w : Word) : v = w ↔ opcOf v = opcOf w ∧ argOf v = argOf w := by
  refine ⟨fun h => h ▸ ⟨rfl, rfl⟩, fun ⟨hopc, harg⟩ => ?_⟩
  rw [← mkWord_opcOf_argOf v, hopc, harg, mkWord_opcOf_argOf]

theorem opcOf_and (v w : Word) : opcOf (v &&& w) = opcOf v &&& opcOf w := BitVec.extractLsb'_and

theorem argOf_and (v w : Word) : argOf (v &&& w) = argOf v &&& argOf w := BitVec.extractLsb'_and

/-- A piece of the argument field is a piece of the word. -/
theorem extractLsb'_mkWord {start len : Nat} (h : start + len ≤ 24) (opc : BitVec 8) (arg : BitVec 24) :
    (mkWord opc arg).extractLsb' start len = arg.extractLsb' start len := by
  refine BitVec.eq_of_getLsbD_eq fun k hk => ?_
  have hlow : start + k < 24 := by omega
  rw [BitVec.getLsbD_extractLsb', BitVec.getLsbD_extractLsb', mkWord, BitVec.getLsbD_append, if_pos hlow]

/-! ### An operand of `n` bits in the low bits of the argument field (R61) -/

/-- The zero test of a format with an `n`-bit operand, read backwards: the argument field is the operand. -/
theorem argOf_eq_of_high_zero (n : Nat) {w : Word} (h : w.extractLsb' n (24 - n) = 0) :
    argOf w = (w.extractLsb' 0 n).setWidth 24 := by
  refine BitVec.eq_of_getLsbD_eq fun k hk => ?_
  by_cases hkn : k < n
  · simp [argOf, hk, hkn]
  · have hbit : (w.extractLsb' n (24 - n)).getLsbD (k - n) = false := by rw [h]; exact BitVec.getLsbD_zero
    have hw : w.getLsbD k = false := by
      simpa [BitVec.getLsbD_extractLsb', show k - n < 24 - n by omega, show n + (k - n) = k by omega] using hbit
    simp [argOf, BitVec.getLsbD_extractLsb', BitVec.getLsbD_setWidth, hkn, hw]

theorem extractLsb'_high_setWidth {n : Nat} (len : Nat) (x : BitVec n) : (x.setWidth 24).extractLsb' n len = 0 := by
  refine BitVec.eq_of_getLsbD_eq fun k _ => ?_
  simp [BitVec.getLsbD_extractLsb', BitVec.getLsbD_setWidth]

theorem extractLsb'_low_setWidth {n : Nat} (hn : n ≤ 24) (x : BitVec n) : (x.setWidth 24).extractLsb' 0 n = x := by
  refine BitVec.eq_of_getLsbD_eq fun k hk => ?_
  simp [hk, show k < 24 by omega]

/-- The mask of a row with an `n`-bit operand, read backwards: the argument field is the operand. -/
theorem setWidth_eq_of_and_high_zero (n : Nat) {arg : BitVec 24} (h : arg &&& BitVec.allOnes 24 <<< n = 0) :
    (arg.setWidth n).setWidth 24 = arg := by
  refine BitVec.eq_of_getLsbD_eq fun k hk => ?_
  by_cases hkn : k < n
  · simp [hk, hkn]
  · have hbit : (arg &&& BitVec.allOnes 24 <<< n).getLsbD k = false := by rw [h]; exact BitVec.getLsbD_zero
    have harg : arg.getLsbD k = false := by
      rw [BitVec.getLsbD_and, BitVec.getLsbD_shiftLeft, BitVec.getLsbD_allOnes] at hbit
      simpa [hk, hkn, show k - n < 24 by omega] using hbit
    simp [hkn, harg]

theorem ofBool_getLsbD_zero (x : BitVec 1) : BitVec.ofBool (x.getLsbD 0) = x := by
  revert x; decide

theorem argN_toNat (arg : BitVec 24) : argN arg.toNat = arg := by
  rw [argN, BitVec.ofNat_toNat, BitVec.setWidth_eq]

/-! ### The formats read the operand they are written with (R61, R62) -/

theorem formatZ_mkWord (opc : BitVec 8) (i : Instr) : formatZ (mkWord opc 0) i = .ok i := by
  rw [formatZ, extractLsb'_mkWord (by decide)]
  rfl

theorem formatB_mkWord (opc : BitVec 8) (b : Bool) (i : Bool → Instr) :
    formatB (mkWord opc (argB b)) i = .ok (i b) := by
  have hbit : (mkWord opc (argB b)).getLsbD 0 = b := by
    rw [mkWord, BitVec.getLsbD_append, if_pos (by decide)]
    cases b <;> rfl
  rw [formatB, extractLsb'_mkWord (by decide), argB, extractLsb'_high_setWidth, if_pos rfl, ← argB, hbit]

theorem formatY_mkWord (opc : BitVec 8) (v : Byte) (i : Byte → Instr) :
    formatY (mkWord opc (argY v)) i = .ok (i v) := by
  rw [formatY, extractLsb'_mkWord (by decide), extractLsb'_mkWord (by decide), argY, extractLsb'_high_setWidth,
    extractLsb'_low_setWidth (by decide), if_pos rfl]

theorem formatM_mkWord (opc : BitVec 8) (m : BitVec 4) (i : BitVec 4 → Instr) :
    formatM (mkWord opc (argM m)) i = .ok (i m) := by
  rw [formatM, extractLsb'_mkWord (by decide), extractLsb'_mkWord (by decide), argM, extractLsb'_high_setWidth,
    extractLsb'_low_setWidth (by decide), if_pos rfl]

theorem formatN_mkWord (opc : BitVec 8) {n : Nat} (hn : n < 2 ^ 24) (i : Nat → Instr) :
    formatN (mkWord opc (argN n)) i = .ok (i n) := by
  rw [formatN, argOf_mkWord, argN, BitVec.toNat_ofNat, Nat.mod_eq_of_lt hn]

/-! ### A format that answers a command has read all of the argument field (R61, R64) -/

section
variable {w : Word} {j : Instr}

theorem formatZ_eq_ok {i : Instr} (h : formatZ w i = .ok j) : argOf w = 0 ∧ j = i := by
  unfold formatZ at h
  split at h
  next hzero => exact ⟨hzero, (Except.ok.inj h).symm⟩
  next => nomatch h

theorem formatB_eq_ok {i : Bool → Instr} (h : formatB w i = .ok j) : ∃ b, argOf w = argB b ∧ j = i b := by
  unfold formatB at h
  split at h
  next hzero =>
    have hbit : w.extractLsb' 0 1 = BitVec.ofBool (w.getLsbD 0) := by
      rw [← ofBool_getLsbD_zero (w.extractLsb' 0 1)]; simp
    refine ⟨_, ?_, (Except.ok.inj h).symm⟩
    rw [argB, ← hbit]
    exact argOf_eq_of_high_zero 1 hzero
  next => nomatch h

theorem formatY_eq_ok {i : Byte → Instr} (h : formatY w i = .ok j) : ∃ v, argOf w = argY v ∧ j = i v := by
  unfold formatY at h
  split at h
  next hzero => exact ⟨_, argOf_eq_of_high_zero 8 hzero, (Except.ok.inj h).symm⟩
  next => nomatch h

theorem formatM_eq_ok {i : BitVec 4 → Instr} (h : formatM w i = .ok j) : ∃ m, argOf w = argM m ∧ j = i m := by
  unfold formatM at h
  split at h
  next hzero => exact ⟨_, argOf_eq_of_high_zero 4 hzero, (Except.ok.inj h).symm⟩
  next => nomatch h

theorem formatN_eq_ok {i : Nat → Instr} (h : formatN w i = .ok j) : ∃ n < 2 ^ 24, argOf w = argN n ∧ j = i n :=
  ⟨_, (argOf w).isLt, (argN_toNat _).symm, (Except.ok.inj h).symm⟩

end

/-! ### Decoding and encoding (30_encoding.md R61 to R66) -/

/-- Settles O1: the opcode of the word selects the command's own arm, whose format reads back the operand. -/
theorem decodeInvertsEncode : Obligations.DecodeInvertsEncode := by
  intro i hi
  cases i with
  | nop | srst | clrAll | frqDrop | crcClr | crcEmit | pbClr | stfClr | dsfClr | nzeClr | nzdClr | pckClr | xtrClr
  | modClr | modFlush | txFrame | txLevels | txBurst | rxEnd =>
    rw [encode, decode, opcOf_mkWord]
    exact formatZ_mkWord _ _
  | crcBit b | pbBit b | stfBit b | dsfBit b | nzeBit b | pckBit b | modSym b =>
    rw [encode, decode, opcOf_mkWord]
    exact formatB_mkWord _ b _
  | crcByte v | pbByte v | nzdLvl v | xtrByte v | rxLvl v =>
    rw [encode, decode, opcOf_mkWord]
    exact formatY_mkWord _ v _
  | qFlush m =>
    rw [encode, decode, opcOf_mkWord]
    exact formatM_mkWord _ m _
  | modTone n | modSil n =>
    rw [encode, decode, opcOf_mkWord]
    exact formatN_mkWord _ (of_decide_eq_true hi) _

/-- Settles O2: the arm that answers fixes the opcode, and its format the whole argument field. The arms are numbered as
the rows of R63 are ordered and grouped by format: M, N, Y, B, the refusal, and Z for all others. -/
theorem encodeInvertsDecode : Obligations.EncodeInvertsDecode := by
  intro w i h
  unfold decode at h
  split at h
  case h_4 hopc =>
    obtain ⟨m, harg, rfl⟩ := formatM_eq_ok h
    exact ⟨rfl, mkWord_eq_of_fields hopc harg⟩
  case h_28 hopc | h_29 hopc =>
    obtain ⟨n, hn, harg, rfl⟩ := formatN_eq_ok h
    exact ⟨decide_eq_true hn, mkWord_eq_of_fields hopc harg⟩
  case h_8 hopc | h_12 hopc | h_20 hopc | h_24 hopc | h_33 hopc =>
    obtain ⟨v, harg, rfl⟩ := formatY_eq_ok h
    exact ⟨rfl, mkWord_eq_of_fields hopc harg⟩
  case h_7 hopc | h_11 hopc | h_14 hopc | h_16 hopc | h_18 hopc | h_22 hopc | h_26 hopc =>
    obtain ⟨b, harg, rfl⟩ := formatB_eq_ok h
    exact ⟨rfl, mkWord_eq_of_fields hopc harg⟩
  case h_35 => nomatch h
  all_goals
    obtain ⟨harg, rfl⟩ := formatZ_eq_ok h
    exact ⟨rfl, mkWord_eq_of_fields ‹_› harg⟩

/-! ### Words written out (30_encoding.md R63; 60_exceptions.md R192) -/

/-- Settles O4: the words of R63 by evaluation; of the words of R192, four have an opcode that is not listed and four a
reserved bit. -/
theorem writtenWordsDecode : Obligations.WrittenWordsDecode := by
  have hunassigned : ∀ w ∈ [0xFFFFFFFF#32, 0x05000000#32, 0x46000000#32, 0x6A000000#32],
      decode w = .error .unassignedOpcode := by
    intro w hw
    fin_cases hw <;> rfl
  have hreserved : ∀ w ∈ [0x10000001#32, 0x11000002#32, 0x12000100#32, 0x03000010#32],
      decode w = .error .reservedBits := by
    intro w hw
    fin_cases hw <;> rfl
  refine ⟨rfl, rfl, rfl, rfl, rfl, rfl, rfl, rfl, rfl, rfl, rfl, rfl, fun w hw i hok => ?_⟩
  rcases List.mem_append (s := [_, _, _, _]).mp hw with hw | hw
  · exact nomatch (hunassigned w hw).symm.trans hok
  · exact nomatch (hreserved w hw).symm.trans hok

end Sys2Proof
end

section
/-! PROOFS. The decoder and the table of masks and matches of 30_encoding.md R63. -/

namespace Sys2Proof

/-! ### What a row selects -/

/-- Every mask holds the whole opcode, and no pattern has a bit in the argument field. -/
theorem opcodeTable_fields : ∀ r ∈ opcodeTable, opcOf r.mask = 0xFF ∧ argOf r.pattern = 0 := by decide

theorem opcodeTable_opcodes_nodup : (opcodeTable.map (opcOf ·.pattern)).Nodup := by decide

/-- A row selects the words of its opcode whose argument field is clear under the mask. -/
theorem selects_iff_fields {r : OpRow} (hr : r ∈ opcodeTable) (w : Word) :
    r.selects w = true ↔ opcOf w = opcOf r.pattern ∧ argOf w &&& argOf r.mask = 0 := by
  obtain ⟨hmask, hpattern⟩ := opcodeTable_fields r hr
  have hall : opcOf w &&& 0xFF = opcOf w := BitVec.and_allOnes
  rw [OpRow.selects, beq_iff_eq, eq_iff_fields, opcOf_and, argOf_and, hmask, hpattern, hall]

/-- Two rows that select one word have its opcode, and no two rows share an opcode. -/
theorem selects_unique {w : Word} {r r' : OpRow} (hr : r ∈ opcodeTable) (hr' : r' ∈ opcodeTable)
    (h : r.selects w = true) (h' : r'.selects w = true) : r = r' := by
  obtain ⟨hopc, -⟩ := (selects_iff_fields hr w).mp h
  obtain ⟨hopc', -⟩ := (selects_iff_fields hr' w).mp h'
  exact List.inj_on_of_nodup_map opcodeTable_opcodes_nodup hr hr' (hopc.symm.trans hopc')

/-! ### Every word a row selects is the word of a command of that row -/

/-- With every argument field that is clear under the row's mask, the row's opcode makes the word of a well-formed
command of the row's mnemonic. -/
def OpRow.Covered (r : OpRow) : Prop :=
  ∀ arg : BitVec 24, arg &&& argOf r.mask = 0 →
    ∃ i : Instr, i.mnemonic = r.mnemonic ∧ i.WellFormed ∧ encode i = mkWord (opcOf r.pattern) arg

/-- A row is covered by the commands `i x` when the argument fields clear under its mask are those of the operands. -/
theorem OpRow.covered_of_operand {α : Type} {r : OpRow} {field : α → BitVec 24}
    (hfield : ∀ arg : BitVec 24, arg &&& argOf r.mask = 0 → ∃ x, field x = arg) (i : α → Instr)
    (hi : ∀ x, (i x).mnemonic = r.mnemonic ∧ (i x).WellFormed ∧ encode (i x) = mkWord (opcOf r.pattern) (field x)) :
    r.Covered := by
  intro arg harg
  obtain ⟨x, rfl⟩ := hfield arg harg
  exact ⟨i x, hi x⟩

theorem exists_argZ (arg : BitVec 24) (h : arg &&& 0xFFFFFF = 0) : ∃ _ : Unit, 0 = arg :=
  ⟨(), h.symm.trans BitVec.and_allOnes⟩

theorem exists_argB (arg : BitVec 24) (h : arg &&& 0xFFFFFE = 0) : ∃ b, argB b = arg :=
  ⟨(arg.setWidth 1).getLsbD 0, by rw [argB, ofBool_getLsbD_zero]; exact setWidth_eq_of_and_high_zero 1 h⟩

theorem exists_argY (arg : BitVec 24) (h : arg &&& 0xFFFF00 = 0) : ∃ v, argY v = arg :=
  ⟨_, setWidth_eq_of_and_high_zero 8 h⟩

theorem exists_argM (arg : BitVec 24) (h : arg &&& 0xFFFFF0 = 0) : ∃ m, argM m = arg :=
  ⟨_, setWidth_eq_of_and_high_zero 4 h⟩

theorem exists_argN (arg : BitVec 24) (_ : arg &&& 0 = 0) : ∃ n : Fin (2 ^ 24), argN n = arg :=
  ⟨arg.toFin, argN_toNat arg⟩

/-- Row by row, in the table's order. -/
theorem opcodeTable_covered : ∀ r ∈ opcodeTable, r.Covered := by
  simp only [opcodeTable, List.forall_mem_append, List.forall_mem_cons]
  exact
    ⟨⟨OpRow.covered_of_operand exists_argZ (fun _ => .nop) fun _ => ⟨rfl, rfl, rfl⟩,
      OpRow.covered_of_operand exists_argZ (fun _ => .srst) fun _ => ⟨rfl, rfl, rfl⟩,
      OpRow.covered_of_operand exists_argZ (fun _ => .clrAll) fun _ => ⟨rfl, rfl, rfl⟩,
      OpRow.covered_of_operand exists_argM .qFlush fun _ => ⟨rfl, rfl, rfl⟩,
      OpRow.covered_of_operand exists_argZ (fun _ => .frqDrop) fun _ => ⟨rfl, rfl, rfl⟩,
      OpRow.covered_of_operand exists_argZ (fun _ => .crcClr) fun _ => ⟨rfl, rfl, rfl⟩,
      OpRow.covered_of_operand exists_argB .crcBit fun _ => ⟨rfl, rfl, rfl⟩,
      OpRow.covered_of_operand exists_argY .crcByte fun _ => ⟨rfl, rfl, rfl⟩,
      OpRow.covered_of_operand exists_argZ (fun _ => .crcEmit) fun _ => ⟨rfl, rfl, rfl⟩,
      OpRow.covered_of_operand exists_argZ (fun _ => .pbClr) fun _ => ⟨rfl, rfl, rfl⟩,
      OpRow.covered_of_operand exists_argB .pbBit fun _ => ⟨rfl, rfl, rfl⟩,
      OpRow.covered_of_operand exists_argY .pbByte fun _ => ⟨rfl, rfl, rfl⟩,
      OpRow.covered_of_operand exists_argZ (fun _ => .stfClr) fun _ => ⟨rfl, rfl, rfl⟩,
      OpRow.covered_of_operand exists_argB .stfBit fun _ => ⟨rfl, rfl, rfl⟩,
      OpRow.covered_of_operand exists_argZ (fun _ => .dsfClr) fun _ => ⟨rfl, rfl, rfl⟩,
      OpRow.covered_of_operand exists_argB .dsfBit fun _ => ⟨rfl, rfl, rfl⟩,
      OpRow.covered_of_operand exists_argZ (fun _ => .nzeClr) fun _ => ⟨rfl, rfl, rfl⟩,
      OpRow.covered_of_operand exists_argB .nzeBit fun _ => ⟨rfl, rfl, rfl⟩,
      nofun⟩,
    OpRow.covered_of_operand exists_argZ (fun _ => .nzdClr) fun _ => ⟨rfl, rfl, rfl⟩,
      OpRow.covered_of_operand exists_argY .nzdLvl fun _ => ⟨rfl, rfl, rfl⟩,
      OpRow.covered_of_operand exists_argZ (fun _ => .pckClr) fun _ => ⟨rfl, rfl, rfl⟩,
      OpRow.covered_of_operand exists_argB .pckBit fun _ => ⟨rfl, rfl, rfl⟩,
      OpRow.covered_of_operand exists_argZ (fun _ => .xtrClr) fun _ => ⟨rfl, rfl, rfl⟩,
      OpRow.covered_of_operand exists_argY .xtrByte fun _ => ⟨rfl, rfl, rfl⟩,
      OpRow.covered_of_operand exists_argZ (fun _ => .modClr) fun _ => ⟨rfl, rfl, rfl⟩,
      OpRow.covered_of_operand exists_argB .modSym fun _ => ⟨rfl, rfl, rfl⟩,
      OpRow.covered_of_operand exists_argZ (fun _ => .modFlush) fun _ => ⟨rfl, rfl, rfl⟩,
      OpRow.covered_of_operand exists_argN (.modTone ·) fun n => ⟨rfl, decide_eq_true n.isLt, rfl⟩,
      OpRow.covered_of_operand exists_argN (.modSil ·) fun n => ⟨rfl, decide_eq_true n.isLt, rfl⟩,
      OpRow.covered_of_operand exists_argZ (fun _ => .txFrame) fun _ => ⟨rfl, rfl, rfl⟩,
      OpRow.covered_of_operand exists_argZ (fun _ => .txLevels) fun _ => ⟨rfl, rfl, rfl⟩,
      OpRow.covered_of_operand exists_argZ (fun _ => .txBurst) fun _ => ⟨rfl, rfl, rfl⟩,
      OpRow.covered_of_operand exists_argY .rxLvl fun _ => ⟨rfl, rfl, rfl⟩,
      OpRow.covered_of_operand exists_argZ (fun _ => .rxEnd) fun _ => ⟨rfl, rfl, rfl⟩,
      nofun⟩

/-- A word a row selects decodes, to a command of that row's mnemonic. -/
theorem decode_of_selects {w : Word} {r : OpRow} (hr : r ∈ opcodeTable) (h : r.selects w = true) :
    ∃ i : Instr, i.mnemonic = r.mnemonic ∧ decode w = .ok i := by
  obtain ⟨hopc, harg⟩ := (selects_iff_fields hr w).mp h
  obtain ⟨i, hname, hwf, hword⟩ := opcodeTable_covered r hr (argOf w) harg
  rw [← hopc, mkWord_opcOf_argOf] at hword
  exact ⟨i, hname, hword ▸ decodeInvertsEncode i hwf⟩

/-! ### Every command has its row -/

open Laws in
/-- The row laws of the single commands, put together. -/
theorem rowOfTable : ∀ i : Instr, RowOfTable.Statement i
  | .nop => RowOfTable.nop
  | .srst => RowOfTable.srst
  | .clrAll => RowOfTable.clrAll
  | .qFlush m => RowOfTable.qFlush m
  | .frqDrop => RowOfTable.frqDrop
  | .crcClr => RowOfTable.crcClr
  | .crcBit b => RowOfTable.crcBit b
  | .crcByte v => RowOfTable.crcByte v
  | .crcEmit => RowOfTable.crcEmit
  | .pbClr => RowOfTable.pbClr
  | .pbBit b => RowOfTable.pbBit b
  | .pbByte v => RowOfTable.pbByte v
  | .stfClr => RowOfTable.stfClr
  | .stfBit b => RowOfTable.stfBit b
  | .dsfClr => RowOfTable.dsfClr
  | .dsfBit b => RowOfTable.dsfBit b
  | .nzeClr => RowOfTable.nzeClr
  | .nzeBit b => RowOfTable.nzeBit b
  | .nzdClr => RowOfTable.nzdClr
  | .nzdLvl v => RowOfTable.nzdLvl v
  | .pckClr => RowOfTable.pckClr
  | .pckBit b => RowOfTable.pckBit b
  | .xtrClr => RowOfTable.xtrClr
  | .xtrByte v => RowOfTable.xtrByte v
  | .modClr => RowOfTable.modClr
  | .modSym b => RowOfTable.modSym b
  | .modFlush => RowOfTable.modFlush
  | .modTone n => RowOfTable.modTone n
  | .modSil n => RowOfTable.modSil n
  | .txFrame => RowOfTable.txFrame
  | .txLevels => RowOfTable.txLevels
  | .txBurst => RowOfTable.txBurst
  | .rxLvl v => RowOfTable.rxLvl v
  | .rxEnd => RowOfTable.rxEnd

/-- Settles O3: a word that decodes is its command's word, which the command's row selects; a word that a row selects
decodes, so a refused word has no row; and the opcode decides the row. -/
theorem decoderFollowsOpcodeTable : Obligations.DecoderFollowsOpcodeTable := by
  refine ⟨fun w i hok => ?_, fun w e herr r hr => ?_, fun w r hr r' hr' => selects_unique hr hr'⟩
  · obtain ⟨hwf, rfl⟩ := encodeInvertsDecode w i hok
    exact rowOfTable i hwf
  · refine Bool.eq_false_iff.mpr fun hsel => ?_
    obtain ⟨i, -, hok⟩ := decode_of_selects hr hsel
    exact nomatch herr.symm.trans hok

end Sys2Proof
end

section
/-! PROOFS. A word of no command, written to CMD (30_encoding.md R64; 60_exceptions.md R192). -/

namespace Sys2Proof.Machine

theorem step_of_pending {s : State} {a : Access} {rest : List Access} (hbus : s.bus = a :: rest) :
    step s = perform a (accept rest s) := by
  rw [step, hbus]

theorem execute_of_decode_error {w : Word} {e : Reject} (herr : decode w = .error e) (s : State) :
    execute w s = .next (raiseCmd .illcmd w s) := by
  rw [execute, herr]

/-- Settles O6: the step performs the write, which executes the word, and the error record is all that is left of it. -/
theorem illegalWordOnlyRecorded : Obligations.IllegalWordOnlyRecorded := by
  intro s w rest e hbus herr
  calc step s = perform (.write 0 w) (accept rest s) := step_of_pending hbus
    _ = execute w (accept rest s) := rfl
    _ = .next (raiseCmd .illcmd w (accept rest s)) := execute_of_decode_error herr _
    _ = _ := rfl

end Sys2Proof.Machine
end

section
/-! PROOFS. A command word written as its opcode and its operand (30_encoding.md R66), as the statements write it. -/

namespace Sys2Proof

/-- `(OPC << 24) or operand` has the operand in its argument field and the opcode above it. -/
theorem mkWord_or_setWidth {n : Nat} (hn : n ≤ 24) (opc : BitVec 8) (x : BitVec n) :
    mkWord opc 0 ||| x.setWidth 32 = mkWord opc (x.setWidth 24) := by
  have hx : x.setWidth 32 = 0#8 ++ x.setWidth 24 := by
    rw [← BitVec.setWidth_setWidth (x := x) (v := 24) (w := 32) (by omega), BitVec.setWidth_eq_append (by decide)]
    rfl
  rw [hx, mkWord, mkWord, BitVec.or_append, BitVec.or_zero]
  exact congrArg _ BitVec.zero_or

/-- The formats B, Y and M at once: 1, 8 and 4 bits of operand. -/
theorem decode_base_or_operand {n : Nat} (hn : n ≤ 24) {i : Instr} (hwf : i.WellFormed) {opc : BitVec 8}
    {x : BitVec n} (hi : encode i = mkWord opc (x.setWidth 24)) : decode (mkWord opc 0 ||| x.setWidth 32) = .ok i := by
  rw [mkWord_or_setWidth hn, ← hi]
  exact decodeInvertsEncode i hwf

end Sys2Proof
end

section
/-! PROOFS. Bit sequences, most significant bit first (20_memory.md R41), and commands in order. -/

namespace Sys2Proof.Machine

open Sys2Proof.Safety

/-! ### Most significant bit first -/

@[simp] theorem msbFirst_length (n : Nat) (v : BitVec n) : (msbFirst n v).length = n := by simp [msbFirst]

/-- The high part's bits come first. -/
theorem msbFirst_append {m n : Nat} (x : BitVec m) (y : BitVec n) :
    msbFirst (m + n) (x ++ y) = msbFirst m x ++ msbFirst n y := by
  rw [msbFirst, List.range_add, List.map_append, List.map_map]
  refine congrArg₂ _ (List.map_congr_left fun i hi => ?_) (List.map_congr_left fun i hi => ?_)
  · have him : i < m := List.mem_range.mp hi
    rw [BitVec.getLsbD_append, if_neg (by omega), show m + n - 1 - i - n = m - 1 - i by omega]
  · have hin : i < n := List.mem_range.mp hi
    rw [Function.comp_apply, BitVec.getLsbD_append, if_pos (by omega), show m + n - 1 - (m + i) = n - 1 - i by omega]

/-- The last two bytes of a sequence are the 16 bits of the word they make, high byte first. -/
theorem bitsOfBytes_append_pair (pay : List Byte) (hi lo : Byte) :
    bitsOfBytes (pay ++ [hi, lo]) = bitsOfBytes pay ++ msbFirst 16 (hi ++ lo) := by
  rw [bitsOfBytes, List.flatMap_append, ← bitsOfBytes, msbFirst_append hi lo]
  rfl

/-! ### Commands one after the other -/

theorem runCommands_cons {i : Instr} {s t : State} (h : exec i s = .next t) (rest : List Instr) :
    runCommands (i :: rest) s = runCommands rest t := by
  rw [runCommands, h]

end Sys2Proof.Machine
end

section
/-! PROOFS. The CRC-16 step and its run (40_crc16.md R80, R81, R86): one bit of the new register in closed form, the two
properties everything else rests on (linear over GF(2), and invertible for each input), and the residue. -/

namespace Sys2Proof.Machine

/-! ### One step (R80) -/

/-- What the feedback bit adds to the shifted register: the low 16 coefficients of x^16 + x^12 + x^5 + 1, or nothing. -/
def crcFeedback (fb : Bool) : BitVec 16 := if fb then 0x1021 else 0

theorem crcFeedback_xor (x y : Bool) : crcFeedback (x ^^ y) = crcFeedback x ^^^ crcFeedback y := by
  cases x <;> cases y <;> rfl

theorem crcFeedback_getLsbD (fb : Bool) : ∀ i < 16, (crcFeedback fb).getLsbD i = (decide (i ∈ [0, 5, 12]) && fb) := by
  cases fb <;> decide

theorem crcStep_eq (r : BitVec 16) (b : Bool) : crcStep r b = r <<< 1 ^^^ crcFeedback (r.getLsbD 15 ^^ b) := by
  unfold crcStep crcFeedback
  cases r.getLsbD 15 ^^ b with
  | false => exact BitVec.xor_zero.symm
  | true => rfl

theorem crcStep_getLsbD (r : BitVec 16) (b : Bool) {i : Nat} (hi : i < 16) : (crcStep r b).getLsbD i =
    ((decide (0 < i) && r.getLsbD (i - 1)) ^^ (decide (i ∈ [0, 5, 12]) && (r.getLsbD 15 ^^ b))) := by
  rw [crcStep_eq, BitVec.getLsbD_xor, BitVec.getLsbD_shiftLeft, crcFeedback_getLsbD _ i hi]
  simp [hi, Nat.pos_iff_ne_zero]

/-- The step is linear in register and input together (R86 (b)): the shift is, and the feedback bit is. -/
theorem crcStep_xor (r r' : BitVec 16) (b b' : Bool) :
    crcStep (r ^^^ r') (b ^^ b') = crcStep r b ^^^ crcStep r' b' := by
  have hfb : ((r ^^^ r').getLsbD 15 ^^ (b ^^ b')) = ((r.getLsbD 15 ^^ b) ^^ (r'.getLsbD 15 ^^ b')) := by
    rw [BitVec.getLsbD_xor, Bool.xor_assoc, Bool.xor_assoc, Bool.xor_left_comm b]
  rw [crcStep_eq, crcStep_eq, crcStep_eq, hfb, crcFeedback_xor, BitVec.shiftLeft_xor_distrib]
  ac_rfl

/-- Bit 0 of the new register is the feedback bit, so the old register can be recovered. -/
theorem crcStep_inj {r r' : BitVec 16} {b : Bool} (h : crcStep r b = crcStep r' b) : r = r' := by
  have hbit : ∀ i < 16, (crcStep r b).getLsbD i = (crcStep r' b).getLsbD i := fun i _ => by rw [h]
  have htop : r.getLsbD 15 = r'.getLsbD 15 := by
    have hzero := hbit 0 (by decide)
    rw [crcStep_getLsbD r b (by decide), crcStep_getLsbD r' b (by decide)] at hzero
    simpa using hzero
  refine BitVec.eq_of_getLsbD_eq fun i hi => ?_
  by_cases hi15 : i = 15
  · rwa [hi15]
  · have hnext : i + 1 < 16 := by omega
    have hsucc := hbit (i + 1) hnext
    rw [crcStep_getLsbD r b hnext, crcStep_getLsbD r' b hnext, htop] at hsucc
    simpa using hsucc

/-- Fed its own top bit, the register only shifts. -/
theorem crcStep_top (r : BitVec 16) : crcStep r (r.getLsbD 15) = r <<< 1 := by
  rw [crcStep_eq, Bool.xor_self]
  exact BitVec.xor_zero

/-! ### A run (R81) -/

theorem crcRun_append (r : BitVec 16) (xs ys : Bits) : crcRun r (xs ++ ys) = crcRun (crcRun r xs) ys :=
  List.foldl_append

theorem crcRun_inj (bits : Bits) {r r' : BitVec 16} (h : crcRun r bits = crcRun r' bits) : r = r' := by
  induction bits generalizing r r' with
  | nil => exact h
  | cons b rest ih => exact crcStep_inj (ih h)

/-- Linearity over a run: two runs over the same bits differ by the run of the difference over zeros. -/
theorem crcRun_xor (bits : Bits) (r r' : BitVec 16) :
    crcRun (r ^^^ r') (List.replicate bits.length false) = crcRun r bits ^^^ crcRun r' bits := by
  induction bits generalizing r r' with
  | nil => rfl
  | cons b rest ih =>
    have hstep : crcStep (r ^^^ r') false = crcStep r b ^^^ crcStep r' b := by
      rw [← crcStep_xor, Bool.xor_self]
    calc crcRun (r ^^^ r') (List.replicate (rest.length + 1) false)
        = crcRun (crcStep (r ^^^ r') false) (List.replicate rest.length false) := rfl
      _ = crcRun (crcStep r b) rest ^^^ crcRun (crcStep r' b) rest := by rw [hstep, ih]

/-- Fed its own bits from the top, the register shifts out. -/
theorem crcRun_own_top_bits (c : BitVec 16) {k : Nat} (hk : k ≤ 16) :
    crcRun c ((List.range k).map fun i => c.getLsbD (15 - i)) = c <<< k := by
  induction k with
  | zero => exact (BitVec.shiftLeft_zero c).symm
  | succ k ih =>
    have htop : c.getLsbD (15 - k) = (c <<< k).getLsbD 15 := by
      rw [BitVec.getLsbD_shiftLeft, decide_eq_false (show ¬ 15 < k by omega)]
      rfl
    rw [List.range_succ, List.map_append, crcRun_append, ih (by omega), List.map_singleton, htop]
    exact (crcStep_top _).trans (BitVec.shiftLeft_add c k 1).symm

theorem crcRun_own_bits (c : BitVec 16) : crcRun c (msbFirst 16 c) = 0#16 :=
  (crcRun_own_top_bits c (Nat.le_refl 16)).trans (BitVec.shiftLeft_eq_zero (Nat.le_refl 16))

/-! ### The residue (R86 (a)) -/

/-- Feeding a 16-bit word is adding it to the register and feeding 16 zeros. -/
theorem crcRun_word (r c : BitVec 16) :
    crcRun r (msbFirst 16 c) = crcRun (r ^^^ c) (List.replicate 16 false) := by
  have h := crcRun_xor (msbFirst 16 c) r c
  rw [crcRun_own_bits, BitVec.xor_zero, msbFirst_length] at h
  exact h.symm

theorem xor_eq_allOnes_iff {n : Nat} (x y : BitVec n) : x ^^^ y = BitVec.allOnes n ↔ ~~~x = y := by
  have hself : x ^^^ ~~~x = BitVec.allOnes n := by
    rw [← BitVec.xor_allOnes, ← BitVec.xor_assoc, BitVec.xor_self, BitVec.zero_xor]
  rw [← hself, BitVec.xor_right_inj, eq_comm]

/-- The residue, 16 zeros fed to the register of all ones, is left by the register's complement and by no other word. -/
theorem crcRun_word_eq_residue_iff (r c : BitVec 16) : crcRun r (msbFirst 16 c) = 0x1D0F ↔ crcSum r = c := by
  have hres : crcRun (BitVec.allOnes 16) (List.replicate 16 false) = 0x1D0F := by decide +kernel
  rw [crcRun_word, ← hres, crcSum, ← xor_eq_allOnes_iff]
  exact ⟨crcRun_inj _, fun h => by rw [h]⟩

theorem crcRun_append_checksum16 (p : Bits) : crcRun crcInit (p ++ checksum16 p) = 0x1D0F := by
  rw [crcRun_append]
  exact (crcRun_word_eq_residue_iff _ _).mpr rfl

/-! ### The verifier (44_frame_extractor.md R158) -/

theorem exists_append_pair {fr : List Byte} (h : 2 ≤ fr.length) : ∃ pay hi lo, fr = pay ++ [hi, lo] := by
  have hlen : (fr.drop (fr.length - 2)).length = 2 := by rw [List.length_drop]; omega
  obtain ⟨hi, lo, hlast⟩ := List.length_eq_two.mp hlen
  exact ⟨fr.take (fr.length - 2), hi, lo, by rw [← hlast, List.take_append_drop]⟩

theorem verify_append_pair (pay : List Byte) (hi lo : Byte) :
    verify (pay ++ [hi, lo]) = (pay, checksumValue (bitsOfBytes pay) == hi ++ lo) := by
  simp [verify, frameChecksum]

theorem verifyOk_iff_residue {fr : List Byte} (h : 2 ≤ fr.length) :
    verifyOk fr = true ↔ crcRun crcInit (bitsOfBytes fr) = 0x1D0F := by
  obtain ⟨pay, hi, lo, rfl⟩ := exists_append_pair h
  rw [verifyOk, verify_append_pair, bitsOfBytes_append_pair, crcRun_append, crcRun_word_eq_residue_iff]
  exact beq_iff_eq

end Sys2Proof.Machine
end

section
/-! PROOFS. The commands of the checksum generator (40_crc16.md R82 to R86). -/

namespace Sys2Proof.Machine

open Sys2Proof.Safety

/-- ST_CRC depends on the CRC register alone (10_state.md R32). -/
theorem regRead_stCrc_of_crc {s : State} {c : BitVec 16} {w : Word} (hc : s.crc = c) (hw : crcSum c ++ c = w) :
    (regRead 13 s).2 = w := by
  rw [← hw, ← hc]
  rfl

theorem runCommands_crcBits (bits : Bits) (s : State) :
    runCommands (bits.map .crcBit) s = .next { s with crc := crcRun s.crc bits } := by
  induction bits generalizing s with
  | nil => rfl
  | cons b rest ih => exact (runCommands_cons rfl _).trans (ih _)

/-- CRC.BYTE is eight CRC.BIT (R84, R86 (c)). -/
theorem exec_crcByte_eq_runCommands (v : Byte) (s : State) :
    exec (.crcByte v) s = runCommands ([7, 6, 5, 4, 3, 2, 1, 0].map (fun j => .crcBit (v.getLsbD j))) s :=
  calc exec (.crcByte v) s = .next { s with crc := crcRun s.crc (msbFirst 8 v) } := rfl
    _ = runCommands ((msbFirst 8 v).map .crcBit) s := (runCommands_crcBits _ s).symm
    _ = _ := rfl

/-- Complementing the register complements each bit it emits. -/
theorem msbFirst_crcSum (r : BitVec 16) :
    msbFirst 16 (crcSum r) = (List.range 16).map (fun j => !r.getLsbD (15 - j)) := by
  refine List.map_congr_left fun j _ => ?_
  rw [crcSum, BitVec.getLsbD_not, decide_eq_true (by omega), Bool.true_and]

/-- Settles O24: the command stores the step, whose bits crcStep_getLsbD gives. -/
theorem crcBitDividesByPolynomial : Obligations.CrcBitDividesByPolynomial := fun b s =>
  ⟨decode_base_or_operand (opc := 0x11) (by decide) rfl rfl, crcStep s.crc b, rfl,
    fun _ hi => crcStep_getLsbD s.crc b hi⟩

/-- Settles O25: the run over the byte's bits is the fold of the step that the eight commands make. -/
theorem crcByteIsEightBits : Obligations.CrcByteIsEightBits := fun v s =>
  ⟨decode_base_or_operand (opc := 0x12) (by decide) rfl rfl, _, rfl, (exec_crcByte_eq_runCommands v s).symm⟩

/-- Settles O26: the 16 bits are emitted whole or not at all. -/
theorem crcEmitPushesComplement : Obligations.CrcEmitPushesComplement := by
  refine ⟨rfl, fun s => ?_⟩
  have hexec : exec .crcEmit s = .next (emitObq (encode .crcEmit) (msbFirst 16 (crcSum s.crc)) s s) := rfl
  rw [hexec]
  refine ⟨fun hroom => ?_, fun hfull => ?_⟩
  · rw [emitObq_of_room _ _ _ _ (by rwa [msbFirst_length]), msbFirst_crcSum]
    rfl
  · rw [emitObq_of_full _ _ _ _ (by simp) (by rwa [msbFirst_length])]
    rfl

/-- Settles O27: the residue of a message and its checksum, the residue test, linearity, CRC.BYTE, and ST_CRC after the
commands. -/
theorem crcResidueAndLinearity : Obligations.CrcResidueAndLinearity := by
  refine ⟨crcRun_append_checksum16, fun fr hlen => verifyOk_iff_residue (Nat.le_of_succ_le hlen), crcStep_xor,
    exec_crcByte_eq_runCommands,
    fun p s => ⟨{ s with crc := 0x1D0F }, ?_, regRead_stCrc_of_crc (c := 0x1D0F) rfl (by decide)⟩⟩
  rw [runCommands_cons rfl, runCommands_crcBits, crcRun_append_checksum16]

end Sys2Proof.Machine
end

section
/-! PROOFS. The unit clears (40_crc16.md R82; 41 R91, R96, R100; 42 R112, R116; 43 R129; 44 R151, R155; 45 R172): what
each view shows once its unit's registers have their start values. -/

namespace Sys2Proof.Machine

/-- ST_ACC_LO and ST_ACC_HI of a phase accumulator at 0 (10_state.md R32). -/
theorem regRead_stAcc_of_zero {s : State} (h : s.acc = 0) : (regRead 16 s).2 = 0 ∧ (regRead 17 s).2 = 0 := by
  simp only [regRead, stAccLoView, stAccHiView, h]
  decide

/-- PB_LEN and PB_NE of an empty payload buffer (10_state.md R29, R32). -/
theorem regRead_pbuf_of_nil {s : State} (h : s.pbuf = []) :
    (regRead 18 s).2 = 0 ∧ (regRead 1 s).2.getLsbD 4 = false := by
  obtain ⟨-, -, -, -, hne, -⟩ := statusView_bits s
  exact ⟨by simp [regRead, h], hne.trans (by simp [h])⟩

/-- Settles O19: a clear's word decodes to it, it writes the start values, and the fields of ST_CODEC (or the
other views) show them. -/
theorem clearsReturnTheirUnitOnly : Obligations.ClearsReturnTheirUnitOnly := by
  intro s
  refine ⟨⟨rfl, rfl⟩, ⟨rfl, _, rfl, rfl, regRead_stCrc_of_crc (c := crcInit) rfl (by decide)⟩,
    ⟨rfl, _, rfl, rfl, regRead_pbuf_of_nil rfl⟩,
    ⟨rfl, _, rfl, rfl, ?stf⟩, ⟨rfl, _, rfl, rfl, ?dsf⟩, ⟨rfl, _, rfl, rfl, ?nze⟩, ⟨rfl, _, rfl, rfl, ?nzd⟩,
    ⟨rfl, _, rfl, rfl, ?pck⟩, ⟨rfl, rfl⟩, ⟨rfl, _, rfl, rfl, regRead_stAcc_of_zero rfl⟩⟩
  case stf =>
    obtain ⟨hscnt, -⟩ := stCodecView_fields { s with scnt := 0 }
    exact hscnt
  case dsf =>
    obtain ⟨-, hdcnt, -⟩ := stCodecView_fields { s with dcnt := 0 }
    exact hdcnt
  case nze =>
    obtain ⟨helvl, -⟩ := stCodecView_bits { s with elvl := true }
    exact helvl
  case nzd =>
    obtain ⟨-, hdprv, -⟩ := stCodecView_bits { s with dprv := true }
    exact hdprv
  case pck =>
    obtain ⟨-, -, hpcnt, hpsr⟩ := stCodecView_fields { s with psr := 0, pcnt := 0 }
    exact ⟨hpsr, hpcnt⟩

end Sys2Proof.Machine
end

section
/-! PROOFS. Commands whose output goes to OBQ whole or not at all (60_exceptions.md R195). -/

namespace Sys2Proof.Machine

open Sys2Proof.Safety

section ObqCommands

variable {i : Instr} {s t : State} {out : Bits}

theorem exec_obq_of_room (hp : plan i s = .obq out s t)
    (hroom : room s.par.obqDepth s.obq.length out.length = true) : exec i s = .next (pushObq out t) := by
  rw [exec_eq_plan, hp]
  exact congrArg _ (emitObq_of_room (encode i) out s t hroom)

theorem exec_obq_of_full (hp : plan i s = .obq out s t) (hne : out ≠ [])
    (hfull : room s.par.obqDepth s.obq.length out.length = false) :
    exec i s = .next (raiseCmd .qfull (encode i) s) := by
  rw [exec_eq_plan, hp]
  exact congrArg _ (emitObq_of_full (encode i) out s t (List.length_pos_of_ne_nil hne) hfull)

/-- A command without output is never refused for lack of room. -/
theorem exec_obq_of_nil (hp : plan i s = .obq [] s t) : exec i s = .next t := by
  rw [exec_eq_plan, hp]
  simp [Plan.commit, Plan.obq, pushObq, fitsObq]

end ObqCommands

end Sys2Proof.Machine
end

section
/-! PROOFS. Payload buffer, stuffer and destuffer (41_stuffing_framing.md R92 to R101): one step of each, and the
commands that make it. -/

namespace Sys2Proof.Machine

open Sys2Proof.Safety

/-! ### Payload buffer (R92, R93) -/

theorem appendPbuf_of_fits (w : Word) {bits : Bits} {s : State} (h : s.pbuf.length + bits.length ≤ s.par.pbufMax) :
    appendPbuf w bits s = { s with pbuf := s.pbuf ++ bits } := by
  rcases appendPbuf_cases w bits s with ⟨-, e⟩ | ⟨hlt, -⟩
  · exact e
  · omega

theorem appendPbuf_of_overflow (w : Word) {bits : Bits} {s : State}
    (h : s.par.pbufMax < s.pbuf.length + bits.length) : appendPbuf w bits s = raiseCmd .pbfull w s := by
  rcases appendPbuf_cases w bits s with ⟨hle, -⟩ | ⟨-, e⟩
  · omega
  · exact e

/-- Settles O29: the bit, or the byte's eight bits, are appended whole or not at all. -/
theorem payloadAppendsOrRefuses : Obligations.PayloadAppendsOrRefuses := by
  refine fun s => ⟨fun b => ⟨?_, fun hfits => ?_, fun hover => ?_⟩, fun v => ⟨?_, fun hfits => ?_, fun hover => ?_⟩⟩
  · exact decode_base_or_operand (opc := 0x19) (by decide) rfl rfl
  · exact congrArg _ (appendPbuf_of_fits _ hfits)
  · have hword : 0x19000000#32 ||| (BitVec.ofBool b).setWidth 32 = encode (.pbBit b) :=
      mkWord_or_setWidth (by decide) 0x19 _
    rw [hword]
    exact congrArg _ (appendPbuf_of_overflow _ hover)
  · exact decode_base_or_operand (opc := 0x1A) (by decide) rfl rfl
  · exact congrArg _ (appendPbuf_of_fits _ hfits)
  · have hword : 0x1A000000#32 ||| v.setWidth 32 = encode (.pbByte v) := mkWord_or_setWidth (by decide) 0x1A _
    rw [hword]
    exact congrArg _ (appendPbuf_of_overflow _ hover)

/-! ### One step of the stuffer (R94) -/

theorem stuffStep_false (c : BitVec 3) : stuffStep c false = (0, [false]) := rfl

theorem stuffStep_true_of_lt {c : BitVec 3} (h : c.toNat < 4) : stuffStep c true = (c + 1, [true]) := by
  have hne : c ≠ 4 := by rintro rfl; exact absurd h (by decide)
  exact if_neg hne

theorem stuffStep_true_of_eq {c : BitVec 3} (h : c.toNat = 4) : stuffStep c true = (0, [true, false]) := by
  obtain rfl : c = 4 := BitVec.eq_of_toNat_eq h
  rfl

theorem plan_stfBit {b : Bool} {s : State} {c : BitVec 3} {out : Bits} (h : stuffStep s.scnt b = (c, out)) :
    plan (.stfBit b) s = .obq out s { s with scnt := c } := by
  rw [plan, h]

/-- Settles O30: the three kinds of step, each with room for its output and without. -/
theorem stfBitStuffs : Obligations.StfBitStuffs := by
  refine ⟨fun b => decode_base_or_operand (opc := 0x21) (by decide) rfl rfl, fun s _ => ?_⟩
  have hzero := plan_stfBit (s := s) (stuffStep_false s.scnt)
  have hone := fun hlt => plan_stfBit (s := s) (stuffStep_true_of_lt hlt)
  have hfifth := fun heq => plan_stfBit (s := s) (stuffStep_true_of_eq heq)
  exact ⟨fun hroom => ⟨exec_obq_of_room hzero hroom, fun hlt => exec_obq_of_room (hone hlt) hroom⟩,
    fun hroom heq => exec_obq_of_room (hfifth heq) hroom,
    fun hfull => ⟨exec_obq_of_full hzero nofun hfull, fun hlt => exec_obq_of_full (hone hlt) nofun hfull⟩,
    fun hfull heq => exec_obq_of_full (hfifth heq) nofun hfull⟩

/-! ### One step of the destuffer (R98) -/

theorem destuffStep_false_of_eq {c : BitVec 3} (h : c.toNat = 5) : destuffStep c false = (0, []) := by
  obtain rfl : c = 5 := BitVec.eq_of_toNat_eq h
  rfl

theorem destuffStep_false_of_ne {c : BitVec 3} (h : c.toNat ≠ 5) : destuffStep c false = (0, [false]) := by
  have hne : c ≠ 5 := by rintro rfl; exact h rfl
  rw [destuffStep, if_neg hne]
  exact ite_self _

theorem destuffStep_true_of_lt {c : BitVec 3} (h : c.toNat < 5) : destuffStep c true = (c + 1, [true]) := by
  have hne5 : c ≠ 5 := by rintro rfl; exact absurd h (by decide)
  have hne6 : c ≠ 6 := by rintro rfl; exact absurd h (by decide)
  rw [destuffStep, if_neg hne5, if_neg hne6]
  rfl

theorem destuffStep_true_of_ge {c : BitVec 3} (h : 5 ≤ c.toNat) (hle : c.toNat ≤ 6) :
    destuffStep c true = (6, [true]) := by
  rcases Nat.lt_or_eq_of_le h with hlt | heq
  · obtain rfl : c = 6 := BitVec.eq_of_toNat_eq (Nat.le_antisymm hle hlt)
    rfl
  · obtain rfl : c = 5 := BitVec.eq_of_toNat_eq heq.symm
    rfl

theorem plan_dsfBit {b : Bool} {s : State} {c : BitVec 3} {out : Bits} (h : destuffStep s.dcnt b = (c, out)) :
    plan (.dsfBit b) s = .obq out s { s with dcnt := c } := by
  rw [plan, h]

/-- Settles O32: the four kinds of step, each with room for its bit and without; the discarded 0 needs none. -/
theorem dsfBitDestuffs : Obligations.DsfBitDestuffs := by
  refine ⟨fun b => decode_base_or_operand (opc := 0x25) (by decide) rfl rfl, fun s hle => ?_⟩
  have hdiscard := fun heq => plan_dsfBit (s := s) (destuffStep_false_of_eq heq)
  have hzero := fun hne => plan_dsfBit (s := s) (destuffStep_false_of_ne hne)
  have hone := fun hlt => plan_dsfBit (s := s) (destuffStep_true_of_lt hlt)
  have hrun := fun hge => plan_dsfBit (s := s) (destuffStep_true_of_ge hge hle)
  refine ⟨fun heq => exec_obq_of_nil (hdiscard heq),
    fun hroom => ⟨fun hne => exec_obq_of_room (hzero hne) hroom, fun hlt => exec_obq_of_room (hone hlt) hroom,
      fun hge => exec_obq_of_room (hrun hge) hroom⟩,
    fun hfull => ⟨fun hne => exec_obq_of_full (hzero hne) nofun hfull, ?_⟩⟩
  rcases Nat.lt_or_ge s.dcnt.toNat 5 with hlt | hge
  · exact exec_obq_of_full (hone hlt) nofun hfull
  · exact exec_obq_of_full (hrun hge) nofun hfull

end Sys2Proof.Machine
end

section
/-! PROOFS. Whole sequences through the stuffer and the destuffer (41_stuffing_framing.md R95, R99): the stuffer as a
relation on its input and its output, which each property goes through by induction, and what the destuffer passes
unchanged. -/

namespace Sys2Proof.Machine

/-! ### Runs of 1-bits -/

/-- A sequence without a symbol, found around that symbol, is found on one side of it. -/
theorem infix_or_infix_of_notMem {α : Type} {l xs ys : List α} {a : α} (ha : a ∉ l) (h : l <:+: xs ++ a :: ys) :
    l <:+: xs ∨ l <:+: ys := by
  rcases List.infix_append_iff.mp h with hxs | hys | ⟨l₁, l₂, rfl, hl₁, hl₂⟩
  · exact .inl hxs
  · rcases List.infix_cons_iff.mp hys with hpre | hin
    · rcases List.prefix_cons_iff.mp hpre with rfl | ⟨l', rfl, -⟩
      · exact .inl List.nil_infix
      · simp at ha
    · exact .inr hin
  · rcases List.prefix_cons_iff.mp hl₂ with rfl | ⟨l', rfl, -⟩
    · simpa using .inl hl₁.isInfix
    · simp at ha

/-- A run of 1-bits is found on one side of a 0. -/
theorem ones_infix_split {n : Nat} {xs ys : Bits} (h : List.replicate n true <:+: xs ++ false :: ys) :
    List.replicate n true <:+: xs ∨ List.replicate n true <:+: ys :=
  infix_or_infix_of_notMem (by simp) h

theorem not_ones_infix_of_length_lt {n : Nat} {xs : Bits} (h : xs.length < n) : ¬ List.replicate n true <:+: xs := by
  intro hin
  have hle := hin.length_le
  rw [List.length_replicate] at hle
  omega

theorem lt_of_not_ones_infix {m n : Nat} {xs : Bits}
    (h : ¬ List.replicate n true <:+: List.replicate m true ++ xs) : m < n := by
  by_contra hge
  obtain ⟨k, rfl⟩ := Nat.exists_eq_add_of_le (Nat.le_of_not_lt hge)
  exact h ⟨[], List.replicate k true ++ xs, by rw [List.nil_append, List.replicate_add, List.append_assoc]⟩

/-- The count's 1-bits and one more. -/
theorem replicate_toNat_append_cons {c : BitVec 3} (h : c.toNat < 7) (xs : Bits) :
    List.replicate c.toNat true ++ true :: xs = List.replicate (c + 1).toNat true ++ xs := by
  have hsucc : (c + 1).toNat = c.toNat + 1 := by bv_omega
  rw [hsucc, List.replicate_succ', List.append_assoc, List.singleton_append]

/-! ### The stuffer's input and output (R94, R95) -/

/-- `out` is what the stuffer puts out for `bits` with the count at `c`, 0 to 4. -/
inductive Stuffed : BitVec 3 → Bits → Bits → Prop where
  | nil {c : BitVec 3} (hc : c.toNat ≤ 4) : Stuffed c [] []
  | zero {c : BitVec 3} {bits out : Bits} (hc : c.toNat ≤ 4) (h : Stuffed 0 bits out) :
      Stuffed c (false :: bits) (false :: out)
  | one {c : BitVec 3} {bits out : Bits} (hc : c.toNat < 4) (h : Stuffed (c + 1) bits out) :
      Stuffed c (true :: bits) (true :: out)
  | fifth {c : BitVec 3} {bits out : Bits} (hc : c.toNat = 4) (h : Stuffed 0 bits out) :
      Stuffed c (true :: bits) (true :: false :: out)

theorem run_stuffStep_stuffed (bits : Bits) {c : BitVec 3} (hc : c.toNat ≤ 4) :
    Stuffed c bits (run stuffStep c bits).2 := by
  induction bits generalizing c with
  | nil => exact .nil hc
  | cons b rest ih =>
    rw [run_cons]
    cases b with
    | false =>
      rw [stuffStep_false]
      exact .zero hc (ih (Nat.zero_le 4))
    | true =>
      rcases Nat.lt_or_eq_of_le hc with hlt | heq
      · rw [stuffStep_true_of_lt hlt]
        exact .one hlt (ih (by bv_omega))
      · rw [stuffStep_true_of_eq heq]
        exact .fifth heq (ih (Nat.zero_le 4))

theorem stuff_stuffed (bits : Bits) : Stuffed 0 bits (stuff bits) := run_stuffStep_stuffed bits (Nat.zero_le 4)

/-- No six 1-bits in a row, those already counted included (R95 (a)). -/
theorem Stuffed.not_six_ones {c : BitVec 3} {bits out : Bits} (h : Stuffed c bits out) :
    ¬ List.replicate 6 true <:+: List.replicate c.toNat true ++ out := by
  induction h with
  | nil hc => exact not_ones_infix_of_length_lt (by simpa using by omega)
  | zero hc _ ih =>
    intro hin
    rcases ones_infix_split hin with hbefore | hafter
    · exact not_ones_infix_of_length_lt (by simpa using by omega) hbefore
    · exact ih hafter
  | one hc _ ih => rwa [replicate_toNat_append_cons (by omega)]
  | fifth hc _ ih =>
    rw [replicate_toNat_append_cons (by omega)]
    intro hin
    rcases ones_infix_split hin with hbefore | hafter
    · exact not_ones_infix_of_length_lt (by simpa using by bv_omega) hbefore
    · exact ih hafter

/-- Each insertion uses up five 1-bits, those already counted included (R95 (b)). -/
theorem Stuffed.insertions {c : BitVec 3} {bits out : Bits} (h : Stuffed c bits out) :
    ∃ k, 5 * k ≤ c.toNat + bits.length ∧ out.length = bits.length + k := by
  induction h with
  | nil _ => exact ⟨0, Nat.zero_le _, rfl⟩
  | zero _ _ ih =>
    obtain ⟨k, hk, hlen⟩ := ih
    exact ⟨k, by rw [List.length_cons]; bv_omega, by rw [List.length_cons, List.length_cons, hlen]; omega⟩
  | one hc _ ih =>
    obtain ⟨k, hk, hlen⟩ := ih
    exact ⟨k, by rw [List.length_cons]; bv_omega, by rw [List.length_cons, List.length_cons, hlen]; omega⟩
  | fifth hc _ ih =>
    obtain ⟨k, hk, hlen⟩ := ih
    exact ⟨k + 1, by rw [List.length_cons]; bv_omega, by simp only [List.length_cons, hlen]; omega⟩

/-- The destuffer, started at the stuffer's count, gives the input back and ends at a count of 0 to 4 (R99 (a)). -/
theorem Stuffed.run_destuffStep {c : BitVec 3} {bits out : Bits} (h : Stuffed c bits out) :
    ∃ c' : BitVec 3, c'.toNat ≤ 4 ∧ run destuffStep c out = (c', bits) := by
  induction h with
  | nil hc => exact ⟨_, hc, rfl⟩
  | zero hc _ ih =>
    obtain ⟨c', hc', hrun⟩ := ih
    refine ⟨c', hc', ?_⟩
    rw [run_cons, destuffStep_false_of_ne (by omega), hrun]
    rfl
  | one hc _ ih =>
    obtain ⟨c', hc', hrun⟩ := ih
    refine ⟨c', hc', ?_⟩
    rw [run_cons, destuffStep_true_of_lt (by omega), hrun]
    rfl
  | fifth hc _ ih =>
    obtain ⟨c', hc', hrun⟩ := ih
    refine ⟨c', hc', ?_⟩
    rw [run_cons, destuffStep_true_of_lt (by omega), run_cons, destuffStep_false_of_eq (by bv_omega), hrun]
    rfl

/-! ### FLAG (R95 (c)) -/

theorem flagBits_eq : flagBits = (false :: List.replicate 6 true) ++ [false] := rfl

theorem stuff_not_six_ones (bits : Bits) : ¬ List.replicate 6 true <:+: stuff bits := (stuff_stuffed bits).not_six_ones

/-- The 0 that ends a FLAG is the first 0 after its first. -/
theorem eq_nil_of_ones_concat_zero {n : Nat} {xs ys : Bits}
    (h : List.replicate n true ++ [false] = xs ++ false :: ys) : ys = [] := by
  induction xs generalizing n with
  | nil =>
    cases n with
    | zero => exact (List.cons.inj h).2.symm
    | succ n => exact absurd (List.cons.inj h).1 nofun
  | cons x xs ih =>
    cases n with
    | zero => simp at h
    | succ n => exact ih (List.cons.inj h).2

/-- A FLAG after a sequence without six 1-bits in a row is the only one. The last 0 of any FLAG follows six 1-bits, so
it lies beyond the sequence and beyond the first 0 of the FLAG after it. -/
theorem eq_nil_of_flag_before_end {xs before after : Bits} (hxs : ¬ List.replicate 6 true <:+: xs)
    (h : xs ++ flagBits = before ++ flagBits ++ after) : after = [] := by
  have hones : List.replicate 6 true <:+: before ++ false :: List.replicate 6 true :=
    ⟨before ++ [false], [], by simp⟩
  have hcut : xs ++ flagBits = (before ++ false :: List.replicate 6 true) ++ false :: after := by
    rw [h, flagBits_eq]
    simp
  rcases List.append_eq_append_iff.mp hcut with ⟨mid, hmid, hflag⟩ | ⟨mid, hmid, -⟩
  · cases mid with
    | nil =>
      rw [List.append_nil] at hmid
      exact absurd (hmid ▸ hones) hxs
    | cons b mid =>
      obtain ⟨-, htail⟩ := List.cons.inj hflag
      exact eq_nil_of_ones_concat_zero (n := 6) htail
  · exact absurd (hmid ▸ hones.trans (List.prefix_append _ _).isInfix) hxs

/-- Settles O31: a FLAG holds six 1-bits in a row, which a stuffed sequence never shows. -/
theorem stuffedSequenceHidesFlag : Obligations.StuffedSequenceHidesFlag := by
  refine ⟨stuff_not_six_ones, fun bits => ?_, fun bits => ⟨fun hflag => ?_, fun before after => ?_⟩, rfl⟩
  · obtain ⟨k, hk, hlen⟩ := (stuff_stuffed bits).insertions
    exact ⟨k, by bv_omega, hlen⟩
  · have hones : List.replicate 6 true <:+: flagBits := ⟨[false], [false], rfl⟩
    exact stuff_not_six_ones bits (hones.trans hflag)
  · exact eq_nil_of_flag_before_end (stuff_not_six_ones bits)

/-! ### What the destuffer passes unchanged (R99 (b) to (d)) -/

/-- Bits without five 1-bits in a row, those already counted included. -/
theorem run_destuffStep_of_not_five_ones {bits : Bits} {c : BitVec 3}
    (h : ¬ List.replicate 5 true <:+: List.replicate c.toNat true ++ bits) :
    ∃ c' : BitVec 3, c'.toNat ≤ 4 ∧ run destuffStep c bits = (c', bits) := by
  induction bits generalizing c with
  | nil => exact ⟨c, Nat.le_of_lt_succ (lt_of_not_ones_infix h), rfl⟩
  | cons b rest ih =>
    have hc : c.toNat < 5 := lt_of_not_ones_infix h
    cases b with
    | false =>
      have hrest : rest <:+ List.replicate c.toNat true ++ false :: rest :=
        ⟨List.replicate c.toNat true ++ [false], by simp⟩
      obtain ⟨c', hc', hrun⟩ := ih (c := 0) fun hin => h (hin.trans hrest.isInfix)
      refine ⟨c', hc', ?_⟩
      rw [run_cons, destuffStep_false_of_ne (by omega), hrun]
      rfl
    | true =>
      rw [replicate_toNat_append_cons (by omega)] at h
      obtain ⟨c', hc', hrun⟩ := ih h
      refine ⟨c', hc', ?_⟩
      rw [run_cons, destuffStep_true_of_lt hc, hrun]
      rfl

/-- A FLAG passes from every count but 5 and leaves the count at 0 (R99 (b)). -/
theorem run_destuffStep_flagBits {c : BitVec 3} (h : c.toNat ≤ 4) : run destuffStep c flagBits = (0, flagBits) := by
  rw [flagBits, run_cons, destuffStep_false_of_ne (by omega)]
  rfl

/-- From a count of 6 every 1-bit passes and keeps the count. -/
theorem run_destuffStep_ones (n : Nat) :
    run destuffStep 6 (List.replicate n true) = (6, List.replicate n true) := by
  induction n with
  | zero => rfl
  | succ n ih =>
    rw [List.replicate_succ, run_cons, destuffStep_true_of_ge (by decide) (by decide), ih]
    rfl

theorem run_destuffStep_long_run {n : Nat} (h : 6 ≤ n) :
    run destuffStep 0 (List.replicate n true ++ [false]) = (0, List.replicate n true ++ [false]) := by
  obtain ⟨m, rfl⟩ := Nat.exists_eq_add_of_le h
  have hsix : run destuffStep 0 (List.replicate 6 true) = (6, List.replicate 6 true) := rfl
  rw [List.replicate_add, run_append, run_append, hsix, run_destuffStep_ones]
  rfl

/-- Of a frame only the body is destuffed: each part leaves a count of 0 to 4 to the next (R99 (c)). -/
theorem destuff_frame {pre : Bits} (x : Bits) (hpre : ¬ List.replicate 5 true <:+: pre) :
    destuff (pre ++ flagBits ++ stuff x ++ flagBits) = pre ++ flagBits ++ x ++ flagBits := by
  obtain ⟨c, hc, hrunpre⟩ := run_destuffStep_of_not_five_ones (c := 0) hpre
  obtain ⟨c', hc', hrunbody⟩ := (stuff_stuffed x).run_destuffStep
  rw [destuff]
  simp only [run_append, hrunpre, run_destuffStep_flagBits hc, hrunbody, run_destuffStep_flagBits hc']

/-- Settles O33: the destuffer keeps the stuffer's count; flags and long runs open its count of 6. -/
theorem destuffUndoesStuff : Obligations.DestuffUndoesStuff := by
  refine ⟨fun x => ?_, run_destuffStep_flagBits (Nat.zero_le 4), fun pre x hpre => destuff_frame x hpre,
    fun n hn => run_destuffStep_long_run (Nat.le_of_succ_le hn)⟩
  obtain ⟨c, -, hrun⟩ := (stuff_stuffed x).run_destuffStep
  rw [destuff, hrun]

end Sys2Proof.Machine
end

section
/-! PROOFS. The framer and the transmit pipelines (41_stuffing_framing.md R102 to R104; 42_nrzi.md R118;
43_gmsk_modulator.md R136): the frame's parts, and what the output of a pipeline depends on. -/

namespace Sys2Proof.Machine

open Sys2Proof.Safety

/-! ### Preamble and frame (R102, R103) -/

@[simp] theorem preamble_length (n : Nat) : (preamble n).length = n := by simp [preamble]

theorem preamble_getElem? {n j : Nat} (hj : j < n) : (preamble n)[j]? = some (decide (j % 2 = 1)) := by
  rw [preamble, List.getElem?_map, List.getElem?_range hj]
  rfl

@[simp] theorem checksum16_length (bits : Bits) : (checksum16 bits).length = 16 := msbFirst_length 16 _

/-- The two flags and the checksum have 16 bits each, and the stuffer makes at most one insertion for five bits. -/
theorem frame_length (p : Bits) (n : Nat) :
    ∃ k ≤ (p.length + 16) / 5, (frame p n).length = n + 16 + p.length + 16 + k := by
  obtain ⟨-, hinsertions, -⟩ := stuffedSequenceHidesFlag
  obtain ⟨k, hk, hlen⟩ := hinsertions (p ++ checksum16 p)
  rw [List.length_append, checksum16_length] at hk hlen
  have hflag : flagBits.length = 8 := rfl
  refine ⟨k, hk, ?_⟩
  rw [frame, List.length_append, List.length_append, List.length_append, preamble_length, hlen, hflag]
  omega

/-- A frame holds at least its flags. -/
theorem frame_ne_nil (p : Bits) (n : Nat) : frame p n ≠ [] := by simp [frame, flagBits]

/-- TX.FRAME's plan, its run written out as R104 has it. -/
theorem plan_txFrame (s : State) : plan .txFrame s = .obq (frame s.pbuf s.preambleLen.toNat) s
    { s with crc := crcRun 0xFFFF s.pbuf, scnt := (run stuffStep 0 (s.pbuf ++ checksum16 s.pbuf)).1 } := rfl

/-- Settles O34: the frame's parts and its length, and TX.FRAME pushes it whole or not at all. -/
theorem txFramePushesFrame : Obligations.TxFramePushesFrame :=
  ⟨rfl, fun n => ⟨preamble_length n, fun _ hj => preamble_getElem? hj⟩, fun p n => ⟨rfl, frame_length p n⟩,
    fun s => ⟨fun hroom => exec_obq_of_room (plan_txFrame s) hroom,
      fun hfull => exec_obq_of_full (plan_txFrame s) (frame_ne_nil _ _) hfull⟩⟩

/-! ### What a transmit pipeline's output depends on (R104; 42 R118; 43 R136, R137 (d)) -/

/-- A command that pushed bits or samples was not refused. -/
theorem eq_result_of_pushed {i : Instr} {s t : State} (h : exec i s = .next t)
    (hpushed : t.obq ≠ s.obq ∨ t.osq ≠ s.osq) : t = (plan i s).result := by
  rcases exec_cases h with ⟨-, hresult⟩ | ⟨k, rfl⟩
  · exact hresult
  · simp at hpushed

/-- The burst reads the configuration, the coefficients in use and LUT. -/
theorem burst_of_sameInputs {s s' : State} (h : SameInputs s s') (levels : Bits) : burst s' levels = burst s levels := by
  obtain ⟨-, -, hsps, hphinc, hwakeLen, hwakePhinc, -, -, hlut, hcoef⟩ := h
  have hcoefs : usedCoefs s' = usedCoefs s := by
    rw [usedCoefs, hsps]
    exact List.map_congr_left fun k hk => hcoef k (Nat.le_of_lt_succ (List.mem_range.mp hk))
  simp only [burst, modRun, toneRun, hsps, hphinc, hwakeLen, hwakePhinc, hlut, hcoefs]

/-- Settles O46: each pipeline's bits or samples and the registers it leaves are made of the shared inputs. -/
theorem transmitOutputDependsOnInputsOnly : Obligations.TransmitOutputDependsOnInputsOnly := by
  intro i s s' t t' hi hin ht ht' hpushed hpushed'
  obtain rfl := eq_result_of_pushed ht hpushed
  obtain rfl := eq_result_of_pushed ht' hpushed'
  have hburst := burst_of_sameInputs hin
  obtain ⟨hpbuf, hpre, -, -, -, -, hbufLen, hfit, -⟩ := hin
  rcases hi with rfl | rfl | rfl
  · refine ⟨(frameRun s.pbuf s.preambleLen.toNat).bits, [], ?_⟩
    simp [plan, hpbuf, hpre]
  · refine ⟨(levelRun s.pbuf s.preambleLen.toNat).levels, [], ?_⟩
    simp [plan, hpbuf, hpre]
  · refine ⟨[], (fitBurst s.fit s.bufLen.toNat
      (burst s (levelRun s.pbuf s.preambleLen.toNat).levels).2).1, ?_⟩
    simp [plan, withEvent_eq, hpbuf, hpre, hburst, hbufLen, hfit]

end Sys2Proof.Machine
end

section
/-! PROOFS. The NRZI encoder and decoder (42_nrzi.md R110 to R118): one step of each in closed form, whole runs, and the
commands that make them. -/

namespace Sys2Proof.Machine

open Sys2Proof.Safety

/-! ### One step (R110, R114) -/

theorem nrziEncStep_eq (lvl b : Bool) : nrziEncStep lvl b = (lvl ^^ b ^^ true, [lvl ^^ b ^^ true]) := by
  cases lvl <;> cases b <;> rfl

theorem nrziDecStep_eq (prev l : Bool) : nrziDecStep prev l = (l, [decide (prev = l)]) := by
  cases prev <;> cases l <;> rfl

theorem levelOf_eq (v : Byte) : levelOf v = decide (0 < v.toNat) := by
  rw [levelOf, Bool.eq_iff_iff, bne_iff_ne, decide_eq_true_iff]
  bv_omega

/-! ### A run of the encoder (R111) -/

theorem run_nrziEncStep_length (lvl : Bool) (bits : Bits) : (run nrziEncStep lvl bits).2.length = bits.length :=
  run_length_one nrziEncStep (fun _ _ => rfl) lvl bits

/-- The encoder's register is the level it put out last. -/
theorem run_nrziEncStep_fst (lvl : Bool) (bits : Bits) :
    (run nrziEncStep lvl bits).1 = (run nrziEncStep lvl bits).2.getLastD lvl := by
  induction bits generalizing lvl with
  | nil => rfl
  | cons b rest ih =>
    rw [run_cons, nrziEncStep_eq, List.singleton_append, List.getLastD_cons]
    exact ih _

/-- Each 0 toggles the level: the output is the start level after an even number of them, else its complement. -/
theorem run_nrziEncStep_getElem? (lvl : Bool) (bits : Bits) {j : Nat} (hj : j < bits.length) :
    (run nrziEncStep lvl bits).2[j]? = some (lvl ^^ decide ((bits.take (j + 1)).count false % 2 = 1)) := by
  induction bits generalizing lvl j with
  | nil => exact absurd hj (Nat.not_lt_zero j)
  | cons b rest ih =>
    rw [run_cons, nrziEncStep_eq, List.singleton_append, List.take_succ_cons]
    cases j with
    | zero => cases lvl <;> cases b <;> rfl
    | succ j =>
      rw [List.getElem?_cons_succ, ih _ (Nat.lt_of_succ_lt_succ hj)]
      cases b with
      | true => simp
      | false =>
        have hparity (n : Nat) : decide ((n + 1) % 2 = 1) = !decide (n % 2 = 1) := by
          rw [← decide_not, decide_eq_decide]
          omega
        rw [List.count_cons_self, hparity]
        simp

/-! ### A run of the decoder (R115) -/

theorem run_nrziDecStep_cons (prev l : Bool) (rest : Bits) :
    (run nrziDecStep prev (l :: rest)).2 = decide (prev = l) :: (run nrziDecStep l rest).2 := by
  rw [run_cons, nrziDecStep_eq, List.singleton_append]

theorem run_nrziDecStep_length (prev : Bool) (levels : Bits) :
    (run nrziDecStep prev levels).2.length = levels.length :=
  run_length_one nrziDecStep (fun _ _ => rfl) prev levels

/-- The decoder that starts at the encoder's level gives the bits back. -/
theorem run_nrziDecStep_encode (lvl : Bool) (bits : Bits) :
    (run nrziDecStep lvl (run nrziEncStep lvl bits).2).2 = bits := by
  induction bits generalizing lvl with
  | nil => rfl
  | cons b rest ih =>
    rw [run_cons, nrziEncStep_eq, List.singleton_append, run_nrziDecStep_cons, ih]
    cases lvl <;> cases b <;> rfl

/-- The previous level is compared with the first level only. -/
theorem run_nrziDecStep_tail (prev prev' : Bool) (levels : Bits) :
    (run nrziDecStep prev levels).2.tail = (run nrziDecStep prev' levels).2.tail := by
  cases levels with
  | nil => rfl
  | cons l rest => rw [run_nrziDecStep_cons, run_nrziDecStep_cons, List.tail_cons, List.tail_cons]

/-- What the decoder puts out for the levels after `before` is a run over them from some previous level. -/
theorem nrziDecode_append_drop (before levels : Bits) :
    (nrziDecode (before ++ levels)).drop before.length =
      (run nrziDecStep (run nrziDecStep true before).1 levels).2 := by
  rw [nrziDecode, run_append]
  exact List.drop_left' (run_nrziDecStep_length true before)

/-- Two levels inverted together compare as before. -/
theorem run_nrziDecStep_not (prev : Bool) (levels : Bits) :
    (run nrziDecStep (!prev) (levels.map (!·))).2 = (run nrziDecStep prev levels).2 := by
  induction levels generalizing prev with
  | nil => rfl
  | cons l rest ih =>
    have hcompare : decide ((!prev) = !l) = decide (prev = l) := by cases prev <;> cases l <;> rfl
    rw [List.map_cons, run_nrziDecStep_cons, run_nrziDecStep_cons, hcompare, ih]

/-- Settles O37: the decoder compares each level with the one before it, and only the first with its start value. -/
theorem nrziDecodeUndoesEncode : Obligations.NrziDecodeUndoesEncode := by
  refine ⟨run_nrziDecStep_encode true, fun p before levels => ?_, fun levels => ⟨?_, ?_⟩⟩
  · rw [nrziDecode_append_drop]
    exact run_nrziDecStep_tail _ _ levels
  · calc (run nrziDecStep true (levels.map (!·))).2.tail
        = (run nrziDecStep (!true) (levels.map (!·))).2.tail := run_nrziDecStep_tail _ _ _
      _ = (run nrziDecStep true levels).2.tail := by rw [run_nrziDecStep_not]
  · cases levels with
    | nil => rfl
    | cons l rest =>
      rw [nrziDecode, nrziDecode, List.map_cons, run_nrziDecStep_cons, run_nrziDecStep_cons]
      cases l <;> rfl

/-! ### The commands (R113, R117, R118) -/

theorem plan_nzeBit (b : Bool) (s : State) :
    plan (.nzeBit b) s = .obq [s.elvl ^^ b ^^ true] s { s with elvl := s.elvl ^^ b ^^ true } := by
  rw [plan, nrziEncStep_eq]

theorem plan_nzdLvl (v : Byte) (s : State) :
    plan (.nzdLvl v) s =
      .obq [decide (s.dprv = decide (0 < v.toNat))] s { s with dprv := decide (0 < v.toNat) } := by
  rw [plan, nrziDecStep_eq, levelOf_eq]

/-- TX.LEVELS's plan, its run written out as R118 has it; ELVL is the level put out last. -/
theorem plan_txLevels (s : State) :
    plan .txLevels s = .obq (nrziEncode (frame s.pbuf s.preambleLen.toNat)) s
      { s with
        crc := crcRun 0xFFFF s.pbuf, scnt := (run stuffStep 0 (s.pbuf ++ checksum16 s.pbuf)).1,
        elvl := (nrziEncode (frame s.pbuf s.preambleLen.toNat)).getLastD true } := by
  rw [nrziEncode, ← run_nrziEncStep_fst]
  rfl

theorem nrziEncode_ne_nil {bits : Bits} (h : bits ≠ []) : nrziEncode bits ≠ [] := by
  rw [← List.length_pos_iff, nrziEncode, run_nrziEncStep_length]
  exact List.length_pos_iff.mpr h

/-- Settles O35: the step in closed form, and the parity of the 0-bits that its run counts. -/
theorem nzeBitTogglesOnZero : Obligations.NzeBitTogglesOnZero := by
  refine ⟨fun b s => ⟨decode_base_or_operand (opc := 0x31) (by decide) rfl rfl,
    fun hroom => exec_obq_of_room (plan_nzeBit b s) hroom, fun hfull => ?_⟩,
    fun bits => ⟨run_nrziEncStep_length true bits, fun j hj => ?_⟩⟩
  · have hword : 0x31000000#32 ||| (BitVec.ofBool b).setWidth 32 = encode (.nzeBit b) :=
      mkWord_or_setWidth (by decide) 0x31 _
    rw [hword]
    exact exec_obq_of_full (plan_nzeBit b s) nofun hfull
  · rw [nrziEncode, run_nrziEncStep_getElem? true bits hj, Bool.true_xor, ← decide_not]
    simp only [Nat.mod_two_not_eq_one]

/-- Settles O36: the step in closed form, on the level the byte denotes. -/
theorem nzdLvlComparesLevels : Obligations.NzdLvlComparesLevels := by
  refine fun v s => ⟨decode_base_or_operand (opc := 0x35) (by decide) rfl rfl,
    fun hroom => exec_obq_of_room (plan_nzdLvl v s) hroom, fun hfull => ?_⟩
  have hword : 0x35000000#32 ||| v.setWidth 32 = encode (.nzdLvl v) := mkWord_or_setWidth (by decide) 0x35 _
  rw [hword]
  exact exec_obq_of_full (plan_nzdLvl v s) nofun hfull

/-- Settles O38: the encoder puts out one level for each frame bit, and TX.LEVELS pushes them whole or not at all. -/
theorem txLevelsPushesNrziFrame : Obligations.TxLevelsPushesNrziFrame := by
  refine ⟨rfl, fun s levels hlevels => ?_⟩
  subst hlevels
  exact ⟨run_nrziEncStep_length true _, fun hroom => exec_obq_of_room (plan_txLevels s) hroom,
    fun hfull => exec_obq_of_full (plan_txLevels s) (nrziEncode_ne_nil (frame_ne_nil _ _)) hfull⟩

end Sys2Proof.Machine
end

section
/-! PROOFS. Commands whose output goes to OSQ whole or not at all, after the configuration's test
(60_exceptions.md R195, R200), room for outputs pushed one after the other, and the modulator commands' errors. -/

namespace Sys2Proof.Machine

open Sys2Proof.Safety

/-! ### Room (45_system_and_queues.md R182) -/

theorem fits_of_not_room {d : Option Nat} {c n : Nat} (hn : 0 < n) (h : room d c n = false) : fits d c n = false := by
  rw [fits_eq_room d c n hn, h]

/-- Room for two outputs is room for the first, and room for the second behind it. -/
theorem room_add_iff (d : Option Nat) (c m n : Nat) :
    room d c (m + n) = true ↔ room d c m = true ∧ room d (c + m) n = true := by
  cases d with
  | none => simp [room]
  | some k =>
    simp only [room, decide_eq_true_eq]
    omega

/-! ### Plans -/

namespace Plan

/-- A plan whose tests all pass has its whole effect. -/
theorem commit_of_passes {p : Plan} (h : p.Passes) (w : Word) (s : State) : p.commit w s = p.result := by
  obtain ⟨tests, t⟩ := p
  induction tests with
  | nil => rfl
  | cons x rest ih =>
    obtain ⟨hx, hrest⟩ := List.forall_mem_cons.mp h
    rw [commit, List.foldr_cons, hx, commitIf_true]
    exact ih hrest

theorem commit_guard_of_fails {ok : Bool} (hok : ok = false) (k : ErrKind) (p : Plan) (w : Word) (s : State) :
    (guard ok k p).commit w s = raiseCmd k w s := by
  rw [hok]
  rfl

theorem commit_guard_of_holds {ok : Bool} (hok : ok = true) (k : ErrKind) (p : Plan) (w : Word) (s : State) :
    (guard ok k p).commit w s = p.commit w s := by
  rw [hok]
  rfl

theorem osq_passes_of_room {n : Nat} (out : List Sample) {s : State} (t : State)
    (h : room s.par.osqDepth s.osq.length n = true) : (osq n out s t).Passes :=
  (osq_passes n out s t).mpr (fits_of_room _ _ _ h)

/-- A nonempty output without room is E_QFULL. -/
theorem commit_osq_of_full {n : Nat} (hn : 0 < n) (out : List Sample) {s : State} (t : State) (w : Word)
    (h : room s.par.osqDepth s.osq.length n = false) : (osq n out s t).commit w s = raiseCmd .qfull w s :=
  commit_guard_of_fails (fits_of_not_room hn h) .qfull (plain (pushOsq out t)) w s

end Plan

/-- A command whose tests all pass has its whole effect. -/
theorem exec_of_passes {i : Instr} {s : State} (h : (plan i s).Passes) : exec i s = .next (plan i s).result := by
  rw [exec_eq_plan, Plan.commit_of_passes h]

section OsqCommands

variable {i : Instr} {s t : State} {n : Nat} {out : List Sample}

theorem exec_osq_of_room (hp : plan i s = .osq n out s t) (hroom : room s.par.osqDepth s.osq.length n = true) :
    exec i s = .next (pushOsq out t) := by
  rw [exec_eq_plan, hp]
  exact congrArg _ (Plan.commit_of_passes (Plan.osq_passes_of_room out t hroom) _ _)

theorem exec_osq_of_full (hp : plan i s = .osq n out s t) (hn : 0 < n)
    (hfull : room s.par.osqDepth s.osq.length n = false) : exec i s = .next (raiseCmd .qfull (encode i) s) := by
  rw [exec_eq_plan, hp]
  exact congrArg _ (Plan.commit_osq_of_full hn out t _ hfull)

end OsqCommands

/-! ### The configuration's test (43_gmsk_modulator.md R130, R136; 60_exceptions.md R193) -/

theorem spsLegal_iff (s : State) : spsLegal s = true ↔ 1 ≤ s.sps.toNat ∧ s.sps.toNat ≤ 256 := by
  rw [spsLegal, Bool.and_eq_true, decide_eq_true_iff, decide_eq_true_iff]

theorem spsLegal_eq_false_iff (s : State) : spsLegal s = false ↔ s.sps.toNat = 0 ∨ 256 < s.sps.toNat := by
  rw [← Bool.not_eq_true, spsLegal_iff]
  omega

/-- TX.BURST wants a legal ratio, a fitting below 3 and, if it fits, a buffer to fit to. -/
theorem burstCfgOk_iff (s : State) : burstCfgOk s = true ↔
    spsLegal s = true ∧ s.fit.toNat ≠ 3 ∧ (s.fit.toNat = 0 ∨ 0 < s.bufLen.toNat) := by
  have hfit := s.fit.isLt
  simp only [burstCfgOk, Bool.and_eq_true, bne_iff_ne, Bool.not_eq_true', Bool.and_eq_false_iff, Bool.or_eq_false_iff,
    beq_eq_false_iff_ne, ne_eq, BitVec.toNat_eq, BitVec.reduceToNat, and_assoc]
  refine and_congr_right fun _ => ?_
  omega

section Modulator

variable {i : Instr} {s : State} {us : List Tap}

/-- A modulator command whose ratio is not legal is E_CFG, whatever the queue holds. -/
theorem exec_modulator_of_illegal (hp : plan i s = .modulator us s) (hsps : s.sps.toNat = 0 ∨ 256 < s.sps.toNat) :
    exec i s = .next (raiseCmd .cfg (encode i) s) := by
  rw [exec_eq_plan, hp]
  exact congrArg _ (Plan.commit_guard_of_fails ((spsLegal_eq_false_iff s).mpr hsps) _ _ _ _)

/-- With a legal ratio, a full OSQ is E_QFULL. -/
theorem exec_modulator_of_full (hp : plan i s = .modulator us s) (h1 : 1 ≤ s.sps.toNat) (h256 : s.sps.toNat ≤ 256)
    (hne : us ≠ []) (hfull : room s.par.osqDepth s.osq.length us.length = false) :
    exec i s = .next (raiseCmd .qfull (encode i) s) := by
  rw [exec_eq_plan, hp]
  refine congrArg _ ((Plan.commit_guard_of_holds ((spsLegal_iff s).mpr ⟨h1, h256⟩) _ _ _ _).trans ?_)
  exact Plan.commit_osq_of_full (List.length_pos_of_ne_nil hne) _ _ _ hfull

/-- With a legal ratio and room for one sample for each input, the run is made. -/
theorem exec_modulator_of_room (hp : plan i s = .modulator us s) (h1 : 1 ≤ s.sps.toNat) (h256 : s.sps.toNat ≤ 256)
    (hroom : room s.par.osqDepth s.osq.length us.length = true) :
    exec i s = .next (Plan.modulator us s).result := by
  rw [← hp]
  refine exec_of_passes ?_
  rw [hp, Plan.modulator_passes]
  exact ⟨(spsLegal_iff s).mpr ⟨h1, h256⟩, fits_of_room _ _ _ hroom⟩

end Modulator

/-- TX.BURST with a configuration it refuses is E_CFG, whatever the queue holds. -/
theorem exec_txBurst_of_cfg {s : State} (h : burstCfgOk s = false) :
    exec .txBurst s = .next (raiseCmd .cfg 0x62000000 s) := by
  rw [exec_eq_plan]
  exact congrArg _ (Plan.commit_guard_of_fails h _ _ _ _)

/-- Settles O40: the configuration's test stands before the queue's in each command's plan. -/
theorem modulatorErrorsInOrder : Obligations.ModulatorErrorsInOrder := by
  refine fun s => ⟨fun hsps => ?_, fun hfit => ?_, fun h1 h256 => ⟨fun hfull => ?_, fun hfull => ?_⟩⟩
  · have hsym (b : Bool) := exec_modulator_of_illegal (i := .modSym b) rfl hsps
    refine ⟨hsym false, hsym true, exec_modulator_of_illegal (i := .modFlush) rfl hsps, exec_txBurst_of_cfg ?_⟩
    rw [burstCfgOk, (spsLegal_eq_false_iff s).mpr hsps, Bool.false_and, Bool.false_and]
  · refine exec_txBurst_of_cfg ?_
    rw [← Bool.not_eq_true, burstCfgOk_iff]
    omega
  · have hsym (b : Bool) : exec (.modSym b) s = .next (raiseCmd .qfull (encode (.modSym b)) s) :=
      exec_modulator_of_full rfl h1 h256 (by rw [ne_eq, List.replicate_eq_nil_iff]; omega)
        (by rwa [List.length_replicate])
    exact ⟨hsym false, hsym true⟩
  · exact exec_modulator_of_full (i := .modFlush) rfl h1 h256 (by rw [ne_eq, List.replicate_eq_nil_iff]; omega)
      (by rwa [List.length_replicate])

end Sys2Proof.Machine
end

section
/-! PROOFS. Runs of the modulator in closed form (43_gmsk_modulator.md R124 to R128, R132): the filter as a sum over the
taps in use, the sample after each input, the phase after a constant input and after a tone. -/

namespace Sys2Proof.Machine

open Sys2Proof.Safety

/-! ### Runs that put out one symbol for each input -/

/-- If a step puts out what it reads off the state it leaves, output `j` is read off the state after `j + 1` inputs. -/
theorem run_getElem?_of_singleton {σ α β : Type} {f : σ → α → σ × List β} {g : σ → β}
    (h : ∀ s a, (f s a).2 = [g (f s a).1]) (s : σ) (xs : List α) {j : Nat} (hj : j < xs.length) :
    (run f s xs).2[j]? = some (g (run f s (xs.take (j + 1))).1) := by
  induction xs generalizing s j with
  | nil => exact absurd hj (Nat.not_lt_zero j)
  | cons a rest ih =>
    rw [run_cons, h, List.singleton_append, List.take_succ_cons, run_cons]
    cases j with
    | zero => rfl
    | succ j => exact ih _ (Nat.lt_of_succ_lt_succ hj)

/-! ### The filter (R124) -/

/-- The sum of products over the taps 0 to `n - 1`, an input that was never made counting 0. -/
theorem firSum_range (c : Nat → BitVec 25) (n : Nat) (xs : List Tap) :
    firSum ((List.range n).map c) xs = ∑ k ∈ Finset.range n, ((c k).toNat : Int) * tapValue (xs.getD k .zero) := by
  induction n generalizing c xs with
  | zero => rfl
  | succ n ih =>
    rw [List.range_succ_eq_map, List.map_cons, List.map_map, Finset.sum_range_succ']
    cases xs with
    | nil => simp [firSum, tapValue]
    | cons x rest =>
      rw [firSum, ih, add_comm]
      rfl

/-- The filter's output is a sum over the taps in use. -/
theorem firSum_usedCoefs (s : State) (xs : List Tap) : firSum (usedCoefs s) xs =
    ∑ k ∈ Finset.range (8 * s.sps.toNat + 1), ((coefAt s k).toNat : Int) * tapValue (xs.getD k .zero) :=
  firSum_range (coefAt s) _ xs

/-- Inputs that agree on the taps in use give the same output. -/
theorem firSum_usedCoefs_congr {s : State} {xs ys : List Tap}
    (h : ∀ k ≤ 8 * s.sps.toNat, xs.getD k .zero = ys.getD k .zero) :
    firSum (usedCoefs s) xs = firSum (usedCoefs s) ys := by
  rw [firSum_usedCoefs, firSum_usedCoefs]
  exact Finset.sum_congr rfl fun k hk => by rw [h k (Nat.le_of_lt_succ (Finset.mem_range.mp hk))]

theorem filterOutput_eq_firSum (s : State) (u : Tap) (n : Nat) :
    filterOutput s u n = firSum (usedCoefs s) (List.replicate (n + 1) u ++ s.dl) := (firSum_usedCoefs s _).symm

theorem getD_take_of_lt {xs : List Tap} {n k : Nat} (h : k < n) : (xs.take n).getD k .zero = xs.getD k .zero := by
  rw [List.getD_eq_getElem?_getD, List.getD_eq_getElem?_getD, List.getElem?_take_of_lt h]

/-- The delay line reaches back to the last tap of every legal ratio. -/
theorem firSum_usedCoefs_cons_take {s : State} (h256 : s.sps.toNat ≤ 256) (u : Tap) (xs : List Tap) :
    firSum (usedCoefs s) (u :: xs.take Config.dlLen) = firSum (usedCoefs s) (u :: xs) := by
  refine firSum_usedCoefs_congr fun k hk => ?_
  cases k with
  | zero => rfl
  | succ k => exact getD_take_of_lt (show k < 2048 by omega)

/-! ### The modulator (R125 to R128) -/

theorem sampleGen_eq_tableAt (s : State) (acc : BitVec 56) : sampleGen s.par.lut acc = tableAt s acc := by
  rw [sampleGen, tableAt, BitVec.toNat_ushiftRight, Nat.shiftRight_eq_div_pow]

/-- Each sample is the table entry at the phase after its input. -/
theorem modRun_getElem? (s : State) (m : ModUnit) (us : List Tap) {j : Nat} (hj : j < us.length) :
    (modRun s m us).2[j]? = some (tableAt s (modRun s m (us.take (j + 1))).1.acc) := by
  rw [← sampleGen_eq_tableAt]
  exact run_getElem?_of_singleton (f := modSample (usedCoefs s) s.phinc s.par.lut)
    (g := fun m => sampleGen s.par.lut m.acc) (fun _ _ => rfl) m us hj

/-- One more input moves the phase by the filter's output. -/
theorem modRun_concat_acc (s : State) (m : ModUnit) (us : List Tap) (u : Tap) :
    (modRun s m (us ++ [u])).1.acc =
      ncoStep s.phinc (modRun s m us).1.acc (firSum (usedCoefs s) (u :: (modRun s m us).1.dl)) := by
  rw [modRun_append]
  rfl

/-- The phase after `n` samples of one input: the filter's outputs add up. -/
theorem modRun_replicate_acc {s : State} (h256 : s.sps.toNat ≤ 256) (hdl : s.dl.length = 2048) (u : Tap) (n : Nat) :
    (modRun s (modUnit s) (List.replicate n u)).1.acc =
      s.acc + BitVec.ofInt 56 ((∑ j ∈ Finset.range n, filterOutput s u j) * s.phinc.toNat) := by
  induction n with
  | zero => simp [modRun, modUnit]
  | succ n ih =>
    have hfilter : firSum (usedCoefs s) (u :: (modRun s (modUnit s) (List.replicate n u)).1.dl) =
        filterOutput s u n := by
      rw [modRun_dl s _ _ hdl, List.reverse_replicate, firSum_usedCoefs_cons_take h256, filterOutput_eq_firSum]
      rfl
    rw [List.replicate_succ', modRun_concat_acc, hfilter, ih, ncoStep, Finset.sum_range_succ, add_mul,
      BitVec.ofInt_add, BitVec.add_assoc]

/-- Sample `j` of one input repeated is the table entry at the phase after `j + 1` of them. -/
theorem modRun_replicate_getElem? {s : State} (h256 : s.sps.toNat ≤ 256) (hdl : s.dl.length = 2048) (u : Tap)
    {n j : Nat} (hj : j < n) :
    (modRun s (modUnit s) (List.replicate n u)).2[j]? = some (tableAt s (phaseAfter s u j)) := by
  rw [modRun_getElem? s _ _ (by rwa [List.length_replicate]), List.take_replicate, Nat.min_eq_left hj,
    modRun_replicate_acc h256 hdl]
  rfl

/-- The state after `n` samples of one input, in closed form. -/
theorem modulator_replicate_result {s : State} (h256 : s.sps.toNat ≤ 256) (hdl : s.dl.length = 2048) (u : Tap)
    {n : Nat} (hn : 0 < n) :
    (Plan.modulator (List.replicate n u) s).result = { s with
      dl := (List.replicate n u ++ s.dl).take 2048, acc := phaseAfter s u (n - 1),
      osq := s.osq ++ (modRun s (modUnit s) (List.replicate n u)).2 } := by
  have hacc := modRun_replicate_acc h256 hdl u (n - 1 + 1)
  have hshift := modRun_dl s (modUnit s) (List.replicate n u) hdl
  rw [Nat.sub_add_cancel hn] at hacc
  rw [List.reverse_replicate] at hshift
  rw [Plan.modulator_result, hacc, hshift, pushOsq, phaseAfter, Nat.sub_add_cancel hn]
  rfl

/-- MOD.SYM and MOD.FLUSH at once: a command that feeds the modulator `n` times the input `u`. -/
theorem exec_modulator_replicate {i : Instr} {s : State} {u : Tap} {n : Nat}
    (hp : plan i s = .modulator (List.replicate n u) s) (hn : 0 < n) (h1 : 1 ≤ s.sps.toNat) (h256 : s.sps.toNat ≤ 256)
    (hdl : s.dl.length = 2048) (hroom : room s.par.osqDepth s.osq.length n = true) :
    ∃ out : List Sample, out.length = n ∧ (∀ j < n, out[j]? = some (tableAt s (phaseAfter s u j))) ∧
      exec i s = .next { s with
        dl := (List.replicate n u ++ s.dl).take 2048, acc := phaseAfter s u (n - 1), osq := s.osq ++ out } := by
  refine ⟨(modRun s (modUnit s) (List.replicate n u)).2, ?_, fun j hj => modRun_replicate_getElem? h256 hdl u hj, ?_⟩
  · rw [modRun_length, List.length_replicate]
  · rw [exec_modulator_of_room hp h1 h256 (by rwa [List.length_replicate]),
      modulator_replicate_result h256 hdl u hn]

/-- Settles O39: the run over a constant input in closed form, by induction on the number of inputs. -/
theorem modSymAndFlushConvolve : Obligations.ModSymAndFlushConvolve := by
  intro s i u n hi h1 h256 hdl hroom
  rcases hi with ⟨rfl, rfl, rfl⟩ | ⟨rfl, rfl, rfl⟩ | ⟨rfl, rfl, rfl⟩
  · exact exec_modulator_replicate rfl h1 h1 h256 hdl hroom
  · exact exec_modulator_replicate rfl h1 h1 h256 hdl hroom
  · exact exec_modulator_replicate rfl (by omega) h1 h256 hdl hroom

end Sys2Proof.Machine
end

section
/-! PROOFS. The filter at rest and the commands without a filter: MOD.FLUSH, MOD.TONE, MOD.SIL
(43_gmsk_modulator.md R131 to R133). -/

namespace Sys2Proof.Machine

open Sys2Proof.Safety

/-! ### The filter at rest (R131) -/

/-- The first `n` entries of a delay line are 0. -/
def Silenced (n : Nat) (dl : List Tap) : Prop := dl.take n = List.replicate n .zero

theorem Silenced.getD {n : Nat} {dl : List Tap} (h : Silenced n dl) {k : Nat} (hk : k < n) :
    dl.getD k .zero = .zero := by
  rw [← getD_take_of_lt hk, h]
  exact List.getD_replicate _ hk

/-- Zeros in front of a delay line silence so much more of it. -/
theorem Silenced.replicate_append {n : Nat} {dl : List Tap} (h : Silenced n dl) (m : Nat) :
    Silenced (m + n) (List.replicate m .zero ++ dl) := by
  have htake := List.take_length_add_append (l₁ := List.replicate m Tap.zero) (l₂ := dl) n
  rw [List.length_replicate] at htake
  rw [Silenced, htake, h, List.replicate_append_replicate]

/-- `n` zeros shifted in silence `n` entries. -/
theorem silenced_replicate_append_take {n : Nat} (hn : n ≤ 2048) (dl : List Tap) :
    Silenced n ((List.replicate n Tap.zero ++ dl).take 2048) := by
  rw [Silenced, List.take_take, Nat.min_eq_left hn]
  exact List.take_left' List.length_replicate

/-- A filter whose past inputs in use are all 0 puts out 0 for nothing. -/
theorem filterOutput_of_silenced {s : State} (h : Silenced (8 * s.sps.toNat) s.dl) (n : Nat) :
    filterOutput s .zero n = 0 := by
  refine Finset.sum_eq_zero fun k hk => ?_
  have hk := Finset.mem_range.mp hk
  rw [(h.replicate_append (n + 1)).getD (by omega), tapValue, mul_zero]

/-- The phase then stands still. -/
theorem phaseAfter_of_silenced {s : State} (h : Silenced (8 * s.sps.toNat) s.dl) (n : Nat) :
    phaseAfter s .zero n = s.acc := by
  rw [phaseAfter, Finset.sum_eq_zero fun j _ => filterOutput_of_silenced h j, zero_mul]
  exact BitVec.add_zero s.acc

theorem eq_replicate_of_getElem? {α : Type} {xs : List α} {n : Nat} {a : α} (hlen : xs.length = n)
    (h : ∀ j < n, xs[j]? = some a) : xs = List.replicate n a := by
  refine List.eq_replicate_iff.mpr ⟨hlen, fun b hb => ?_⟩
  obtain ⟨j, hj⟩ := List.mem_iff_getElem?.mp hb
  have hjn : j < n := hlen ▸ (List.getElem?_eq_some_iff.mp hj).1
  exact (Option.some.inj ((h j hjn).symm.trans hj)).symm

/-- MOD.FLUSH with the filter at rest pushes copies of one sample and moves nothing. -/
theorem exec_modFlush_of_silenced {s : State} (h1 : 1 ≤ s.sps.toNat) (h256 : s.sps.toNat ≤ 256)
    (hdl : s.dl.length = 2048) (hquiet : Silenced (8 * s.sps.toNat) s.dl)
    (hroom : room s.par.osqDepth s.osq.length (8 * s.sps.toNat) = true) :
    ∃ t, exec .modFlush s = .next t ∧ t.acc = s.acc ∧
      t.osq = s.osq ++ List.replicate (8 * s.sps.toNat) (tableAt s s.acc) := by
  obtain ⟨out, hlen, hout, hflush⟩ := exec_modulator_replicate (i := .modFlush) rfl (by omega) h1 h256 hdl hroom
  simp only [phaseAfter_of_silenced hquiet] at hout
  exact ⟨_, hflush, phaseAfter_of_silenced hquiet _, congrArg _ (eq_replicate_of_getElem? hlen hout)⟩

/-- Settles O41: the first flush silences the taps in use, and the second finds the filter at rest. -/
theorem flushSettlesTheFilter : Obligations.FlushSettlesTheFilter := by
  intro s h1 h256 hdl hroom
  rw [show 16 * s.sps.toNat = 8 * s.sps.toNat + 8 * s.sps.toNat by omega, room_add_iff] at hroom
  obtain ⟨hroom1, hroom2⟩ := hroom
  obtain ⟨out, hlen, -, hflush⟩ := exec_modulator_replicate (i := .modFlush) rfl (by omega) h1 h256 hdl hroom1
  have hquiet := silenced_replicate_append_take (n := 8 * s.sps.toNat) (by omega) s.dl
  have hosq : (s.osq ++ out).length = s.osq.length + 8 * s.sps.toNat := by rw [List.length_append, hlen]
  rw [← hosq] at hroom2
  obtain ⟨u, hu, hacc, hcopies⟩ := exec_modFlush_of_silenced
    (s := { s with
      dl := (List.replicate (8 * s.sps.toNat) Tap.zero ++ s.dl).take 2048
      acc := phaseAfter s .zero (8 * s.sps.toNat - 1), osq := s.osq ++ out })
    h1 h256 (by rw [List.length_take, List.length_append, hdl]; omega) hquiet hroom2
  exact ⟨_, u, hflush, hu, hquiet, hosq, hacc, hcopies⟩

/-! ### Tone and silence (R132, R133) -/

/-- The phase after `n` samples of the tone. -/
theorem toneRun_acc (s : State) (acc : BitVec 56) (n : Nat) :
    (toneRun s acc n).1 = acc + BitVec.ofInt 56 ((n : Int) * (s.wakePhinc.toInt * 2 ^ 24)) := by
  induction n with
  | zero => simp [toneRun]
  | succ n ih =>
    have hstep : (toneRun s acc (n + 1)).1 = (toneRun s acc n).1 + BitVec.ofInt 56 (s.wakePhinc.toInt * 2 ^ 24) := by
      rw [toneRun, List.replicate_succ', run_append]
      rfl
    rw [hstep, ih, Nat.cast_succ, add_mul, one_mul, BitVec.ofInt_add, BitVec.add_assoc]

/-- Sample `j` of the tone is the table entry `j + 1` phase steps on. -/
theorem toneRun_getElem? (s : State) (acc : BitVec 56) {n j : Nat} (hj : j < n) :
    (toneRun s acc n).2[j]? =
      some (tableAt s (acc + BitVec.ofInt 56 (((j : Int) + 1) * (s.wakePhinc.toInt * 2 ^ 24)))) := by
  have hsample := run_getElem?_of_singleton (f := toneSample s.wakePhinc s.par.lut) (g := sampleGen s.par.lut)
    (fun _ _ => rfl) acc (List.replicate n ()) (by rwa [List.length_replicate])
  rw [List.take_replicate, Nat.min_eq_left hj, ← toneRun, ← toneRun, toneRun_acc, sampleGen_eq_tableAt] at hsample
  exact_mod_cast hsample

/-- The word of a count below 2^24 has the count in its argument field (30_encoding.md R66, format N). -/
theorem base_or_count (opc : BitVec 8) {n : Nat} (hn : n < 2 ^ 24) :
    mkWord opc 0 ||| BitVec.ofNat 32 n = mkWord opc (argN n) := by
  have hcount : (argN n).setWidth 32 = BitVec.ofNat 32 n := BitVec.setWidth_ofNat_of_le_of_lt (by decide) hn
  rw [← hcount, mkWord_or_setWidth (by decide), BitVec.setWidth_eq]

theorem decode_base_or_count {i : Instr} {opc : BitVec 8} {n : Nat} (hn : n < 2 ^ 24) (hwf : i.WellFormed)
    (hi : encode i = mkWord opc (argN n)) : decode (mkWord opc 0 ||| BitVec.ofNat 32 n) = .ok i := by
  rw [base_or_count opc hn, ← hi]
  exact decodeInvertsEncode i hwf

/-- Settles O42: the tone's phase is a multiple of its step, and both commands push all `n` samples or none. -/
theorem toneAndSilence : Obligations.ToneAndSilence := by
  intro s n hn
  refine ⟨decode_base_or_count (opc := 0x53) hn (decide_eq_true hn) rfl,
    decode_base_or_count (opc := 0x54) hn (decide_eq_true hn) rfl, fun hroom => ⟨?_, ?_⟩, fun hpos hfull => ?_⟩
  · refine ⟨(toneRun s s.acc n).2, toneRun_length s s.acc n, fun j hj => toneRun_getElem? s s.acc hj, ?_⟩
    rw [exec_osq_of_room (i := .modTone n) rfl hroom, toneRun_acc]
    rfl
  · exact exec_osq_of_room (i := .modSil n) rfl hroom
  · have htone := exec_osq_of_full (i := .modTone n) rfl hpos hfull
    have hsil := exec_osq_of_full (i := .modSil n) rfl hpos hfull
    exact ⟨(base_or_count 0x53 hn).symm ▸ htone, (base_or_count 0x54 hn).symm ▸ hsil⟩

end Sys2Proof.Machine
end

section
/-! PROOFS. The burst (43_gmsk_modulator.md R134, R137 (c)): its length, the phase it ends on, and the primitive
commands it is made of. -/

namespace Sys2Proof.Machine

open Sys2Proof.Safety

/-! ### What the filter still owes

The phase a run ends on is found by a law of conservation: what the filter puts out for an input, and what it will
still put out for the inputs it holds, is together the sum of the coefficients in use for each input made. -/

/-- What the filter will put out, fed nothing more, for the inputs in the delay line. -/
def owed (s : State) (dl : List Tap) : Int :=
  ∑ k ∈ Finset.range (8 * s.sps.toNat + 1),
    ((coefAt s k).toNat : Int) * ∑ i ∈ Finset.range k, tapValue (dl.getD i .zero)

/-- The sum of the coefficients in use: what one symbol's sample adds in the end. -/
def coefSum (s : State) : Int := ∑ k ∈ Finset.range (8 * s.sps.toNat + 1), ((coefAt s k).toNat : Int)

/-- Delay lines that agree on the inputs in use owe the same. -/
theorem owed_congr {s : State} {xs ys : List Tap} (h : ∀ i < 8 * s.sps.toNat, xs.getD i .zero = ys.getD i .zero) :
    owed s xs = owed s ys := by
  refine Finset.sum_congr rfl fun k hk => congrArg _ (Finset.sum_congr rfl fun i hi => ?_)
  rw [Finset.mem_range] at hk hi
  rw [h i (by omega)]

/-- A filter whose inputs in use are all 0 owes nothing. -/
theorem owed_of_silenced {s : State} {dl : List Tap} (h : Silenced (8 * s.sps.toNat) dl) : owed s dl = 0 := by
  rw [owed_congr (ys := []) fun i hi => h.getD hi]
  simp [owed, tapValue]

/-- Conservation over one input: it owes the whole sum of the coefficients, and the output pays its part. -/
theorem firSum_add_owed {s : State} (h256 : s.sps.toNat ≤ 256) (u : Tap) (dl : List Tap) :
    firSum (usedCoefs s) (u :: dl) + owed s ((u :: dl).take Config.dlLen) = coefSum s * tapValue u + owed s dl := by
  have hcut : owed s ((u :: dl).take Config.dlLen) = owed s (u :: dl) :=
    owed_congr fun i hi => getD_take_of_lt (show i < 2048 by omega)
  rw [hcut, firSum_usedCoefs, owed, owed, coefSum, Finset.sum_mul, ← Finset.sum_add_distrib,
    ← Finset.sum_add_distrib]
  refine Finset.sum_congr rfl fun k _ => ?_
  rw [← mul_add, ← mul_add, add_comm, ← Finset.sum_range_succ, Finset.sum_range_succ', add_comm]
  rfl

/-- The phase at which the modulator comes to rest if it is fed nothing more. -/
def restPhase (s : State) (m : ModUnit) : BitVec 56 := m.acc + BitVec.ofInt 56 (owed s m.dl * s.phinc.toNat)

theorem restPhase_of_silenced {s : State} (m : ModUnit) (h : Silenced (8 * s.sps.toNat) m.dl) :
    restPhase s m = m.acc := by
  rw [restPhase, owed_of_silenced h, zero_mul]
  exact BitVec.add_zero m.acc

/-- A run moves the phase of rest by the sum of the coefficients for each input, whatever the order of the inputs. -/
theorem modRun_restPhase {s : State} (h256 : s.sps.toNat ≤ 256) (m : ModUnit) (us : List Tap) :
    restPhase s (modRun s m us).1 =
      restPhase s m + BitVec.ofInt 56 (coefSum s * (us.map tapValue).sum * s.phinc.toNat) := by
  induction us generalizing m with
  | nil => simp [modRun]
  | cons u rest ih =>
    have hpay := firSum_add_owed h256 u m.dl
    refine (ih (modSample (usedCoefs s) s.phinc s.par.lut m u).1).trans ?_
    rw [restPhase, restPhase, modSample, firSample, ncoStep, BitVec.add_assoc, BitVec.add_assoc, BitVec.add_assoc,
      ← BitVec.ofInt_add, ← BitVec.ofInt_add, ← BitVec.ofInt_add, List.map_cons, List.sum_cons]
    congr 2
    linear_combination (s.phinc.toNat : Int) * hpay

/-! ### The inputs of a burst (R134) -/

/-- The symbols of a level sequence, each as many times as there are samples in a symbol. -/
def symbolInputs (sps : Nat) (levels : Bits) : List Tap := levels.flatMap fun l => List.replicate sps (sym l)

theorem burstInputs_eq (sps : Nat) (levels : Bits) :
    burstInputs sps levels = symbolInputs sps levels ++ List.replicate (8 * sps) .zero := rfl

@[simp] theorem symbolInputs_nil (sps : Nat) : symbolInputs sps [] = [] := rfl

@[simp] theorem symbolInputs_cons (sps : Nat) (l : Bool) (rest : Bits) :
    symbolInputs sps (l :: rest) = List.replicate sps (sym l) ++ symbolInputs sps rest := rfl

@[simp] theorem symbolInputs_length (sps : Nat) (levels : Bits) :
    (symbolInputs sps levels).length = sps * levels.length := by
  induction levels with
  | nil => rfl
  | cons l rest ih =>
    rw [symbolInputs_cons, List.length_append, List.length_replicate, ih, List.length_cons]
    ring

@[simp] theorem burstInputs_length (sps : Nat) (levels : Bits) :
    (burstInputs sps levels).length = sps * levels.length + 8 * sps := by
  rw [burstInputs_eq, List.length_append, symbolInputs_length, List.length_replicate]

/-- The symbols add up to their net count. -/
theorem symbolInputs_sum (sps : Nat) (levels : Bits) :
    ((symbolInputs sps levels).map tapValue).sum = sps * ((levels.count true : Int) - levels.count false) := by
  induction levels with
  | nil => simp
  | cons l rest ih =>
    rw [symbolInputs_cons, List.map_append, List.sum_append, ih, List.map_replicate, List.sum_replicate]
    cases l <;> simp [sym, tapValue] <;> ring

theorem burstInputs_sum (sps : Nat) (levels : Bits) :
    ((burstInputs sps levels).map tapValue).sum = sps * ((levels.count true : Int) - levels.count false) := by
  rw [burstInputs_eq, List.map_append, List.sum_append, symbolInputs_sum]
  simp [tapValue]

/-! ### The burst (R134, R137 (c)) -/

/-- The burst's inputs start with the filter at rest, at the phase the tone ends on. -/
theorem burst_fst (s : State) (levels : Bits) : (burst s levels).1 =
    (modRun s ⟨modStart.dl, (toneRun s modStart.acc s.wakeLen.toNat).1⟩ (burstInputs s.sps.toNat levels)).1 := rfl

theorem burst_length (s : State) (levels : Bits) : (burst s levels).2.length =
    s.wakeLen.toNat + s.sps.toNat * levels.length + 8 * s.sps.toNat := by
  rw [burst, List.length_append, toneRun_length, modRun_length, burstInputs_length, Nat.add_assoc]

/-- A burst ends with the filter at rest. -/
theorem burst_silenced {s : State} (h256 : s.sps.toNat ≤ 256) (levels : Bits) :
    Silenced (8 * s.sps.toNat) (burst s levels).1.dl := by
  rw [burst_fst, modRun_dl s _ _ List.length_replicate, burstInputs_eq, List.reverse_append, List.reverse_replicate,
    List.append_assoc]
  exact silenced_replicate_append_take (by omega) _

/-- The delay line MOD.CLR leaves. -/
theorem modStart_silenced {n : Nat} (hn : n ≤ 2048) : Silenced n modStart.dl := by
  rw [Silenced, modStart, List.take_replicate, Nat.min_eq_left hn]

/-- Settles O43: the filter owes nothing before the first symbol and after the last sample. -/
theorem burstEndsOnNetPhase : Obligations.BurstEndsOnNetPhase := by
  refine fun s levels _ h256 => ⟨burst_length s levels, ?_⟩
  have hstart (acc : BitVec 56) : restPhase s ⟨modStart.dl, acc⟩ = acc :=
    restPhase_of_silenced ⟨modStart.dl, acc⟩ (modStart_silenced (by omega))
  have htone : (toneRun s modStart.acc s.wakeLen.toNat).1 =
      BitVec.ofInt 56 ((s.wakeLen.toNat : Int) * (s.wakePhinc.toInt * 2 ^ 24)) :=
    (toneRun_acc s _ _).trans (BitVec.zero_add _)
  rw [← restPhase_of_silenced _ (burst_silenced h256 levels), burst_fst, modRun_restPhase h256,
    hstart, htone, burstInputs_sum, ← BitVec.ofInt_add, coefSum]
  congr 1
  ring

/-! ### Runs of the modulator as commands -/

/-- Two runs one after the other leave what one run over both inputs leaves. -/
theorem modulator_result_append (s : State) (us vs : List Tap) :
    (Plan.modulator vs (Plan.modulator us s).result).result = (Plan.modulator (us ++ vs) s).result := by
  simp only [Plan.modulator_result, modRun_append, pushOsq]
  rw [← List.append_assoc]
  rfl

theorem modulator_result_nil (s : State) : (Plan.modulator [] s).result = s := by
  simp [modRun, modUnit, pushOsq]

theorem modulator_result_osq_length (us : List Tap) (s : State) :
    (Plan.modulator us s).result.osq.length = s.osq.length + us.length := by simp

/-- MOD.SYM for each level is one run over all the symbols. -/
theorem runCommands_modSyms (levels : Bits) (rest : List Instr) {s : State} (h1 : 1 ≤ s.sps.toNat)
    (h256 : s.sps.toNat ≤ 256) (hroom : room s.par.osqDepth s.osq.length (s.sps.toNat * levels.length) = true) :
    runCommands (levels.map .modSym ++ rest) s =
      runCommands rest (Plan.modulator (symbolInputs s.sps.toNat levels) s).result := by
  induction levels generalizing s with
  | nil => rw [symbolInputs_nil, modulator_result_nil]; rfl
  | cons l ls ih =>
    rw [List.length_cons, Nat.mul_add_one, Nat.add_comm, room_add_iff] at hroom
    obtain ⟨hfirst, hrest⟩ := hroom
    have hsym := exec_modulator_of_room (i := .modSym l) rfl h1 h256 (by rwa [List.length_replicate])
    have hsyms := ih (s := (Plan.modulator (List.replicate s.sps.toNat (sym l)) s).result) h1 h256
      (by rwa [modulator_result_osq_length, List.length_replicate])
    rw [List.map_cons, List.cons_append, runCommands_cons hsym, hsyms, symbolInputs_cons, ← modulator_result_append]
    rfl

/-- MOD.SYM for each level and MOD.FLUSH are one run over the inputs of a burst. -/
theorem runCommands_modSyms_flush (levels : Bits) {s : State} (h1 : 1 ≤ s.sps.toNat) (h256 : s.sps.toNat ≤ 256)
    (hroom : room s.par.osqDepth s.osq.length (s.sps.toNat * levels.length + 8 * s.sps.toNat) = true) :
    runCommands (levels.map .modSym ++ [.modFlush]) s =
      .next (Plan.modulator (burstInputs s.sps.toNat levels) s).result := by
  obtain ⟨hsyms, hflush⟩ := (room_add_iff _ _ _ _).mp hroom
  have hexec := exec_modulator_of_room (i := .modFlush)
    (s := (Plan.modulator (symbolInputs s.sps.toNat levels) s).result) rfl h1 h256
    (by rw [modulator_result_osq_length, symbolInputs_length, List.length_replicate]; exact hflush)
  rw [runCommands_modSyms levels _ h1 h256 hsyms, runCommands_cons hexec, burstInputs_eq, ← modulator_result_append]
  rfl

/-- What MOD.CLR and MOD.TONE WAKE_LEN leave. -/
def afterTone (s : State) : State :=
  let tone := toneRun s modStart.acc s.wakeLen.toNat
  pushOsq tone.2 { s with dl := modStart.dl, acc := tone.1 }

theorem afterTone_osq_length (s : State) : (afterTone s).osq.length = s.osq.length + s.wakeLen.toNat := by
  simp [afterTone]

theorem runCommands_clr_tone {s : State} (hroom : room s.par.osqDepth s.osq.length s.wakeLen.toNat = true)
    (rest : List Instr) :
    runCommands (.modClr :: .modTone s.wakeLen.toNat :: rest) s = runCommands rest (afterTone s) := by
  have hclr : exec .modClr s = .next { s with dl := modStart.dl, acc := modStart.acc } := rfl
  have htone : exec (.modTone s.wakeLen.toNat) { s with dl := modStart.dl, acc := modStart.acc } =
      .next (afterTone s) := exec_osq_of_room rfl hroom
  rw [runCommands_cons hclr, runCommands_cons htone]

/-- The burst is the tone and the run over its inputs. -/
theorem modulator_result_afterTone (s : State) (levels : Bits) :
    (Plan.modulator (burstInputs s.sps.toNat levels) (afterTone s)).result = { s with
      dl := (burst s levels).1.dl, acc := (burst s levels).1.acc, osq := s.osq ++ (burst s levels).2 } := by
  rw [Plan.modulator_result, burst, ← List.append_assoc]
  rfl

/-- MOD.CLR, MOD.TONE, MOD.SYM for each level and MOD.FLUSH leave the burst. -/
theorem runCommands_burst {s : State} (levels : Bits) (h1 : 1 ≤ s.sps.toNat) (h256 : s.sps.toNat ≤ 256)
    (hroom : room s.par.osqDepth s.osq.length
      (s.wakeLen.toNat + s.sps.toNat * levels.length + 8 * s.sps.toNat) = true) :
    runCommands ([.modClr, .modTone s.wakeLen.toNat] ++ levels.map .modSym ++ [.modFlush]) s = .next { s with
      dl := (burst s levels).1.dl, acc := (burst s levels).1.acc, osq := s.osq ++ (burst s levels).2 } := by
  rw [Nat.add_assoc, room_add_iff] at hroom
  obtain ⟨htone, hframe⟩ := hroom
  rw [← modulator_result_afterTone, List.append_assoc]
  refine (runCommands_clr_tone htone _).trans (runCommands_modSyms_flush (s := afterTone s) levels h1 h256 ?_)
  rwa [afterTone_osq_length]

end Sys2Proof.Machine
end

section
/-! PROOFS. Fitting a burst to the buffer (43_gmsk_modulator.md R135), TX.BURST (R136) and the samples in OSQ
(R137 (a)). -/

namespace Sys2Proof.Machine

open Sys2Proof.Safety

/-! ### Fitting (R135) -/

/-- `k` whole copies of a burst, then silence up to `n` samples. -/
def padded (k n : Nat) (b : List Sample) : List Sample := (List.replicate k b).flatten ++ silence (n - k * b.length)

theorem flatten_replicate_length {α : Type} (k : Nat) (b : List α) :
    (List.replicate k b).flatten.length = k * b.length := by
  simp [List.sum_replicate]

/-- Copy after copy, entry `j` is entry `j` modulo the length of one. -/
theorem flatten_replicate_getElem? {α : Type} {k j : Nat} {b : List α} (hj : j < k * b.length) :
    (List.replicate k b).flatten[j]? = b[j % b.length]? := by
  induction k generalizing j with
  | zero => omega
  | succ k ih =>
    rw [List.replicate_succ, List.flatten_cons]
    rcases Nat.lt_or_ge j b.length with hlt | hge
    · rw [List.getElem?_append_left hlt, Nat.mod_eq_of_lt hlt]
    · rw [Nat.add_one_mul] at hj
      rw [List.getElem?_append_right hge, ih (by omega), ← Nat.mod_eq_sub_mod hge]

section Padded

variable {k n : Nat} {b : List Sample} (h : k * b.length ≤ n)
include h

theorem padded_length : (padded k n b).length = n := by
  rw [padded, List.length_append, flatten_replicate_length, silence, List.length_replicate]
  omega

theorem padded_getElem? {j : Nat} (hj : j < n) :
    (padded k n b)[j]? = if j < k * b.length then b[j % b.length]? else some ⟨0, 0⟩ := by
  have hcopies := flatten_replicate_length k b
  rw [padded]
  split_ifs with hlt
  · rw [List.getElem?_append_left (by omega), flatten_replicate_getElem? hlt]
  · rw [List.getElem?_append_right (by omega), silence, List.getElem?_replicate_of_lt (by omega)]
    rfl

end Padded

theorem fitBurst_zero (n : Nat) (b : List Sample) : fitBurst 0 n b = (b, false) := rfl

/-- A burst that fits is padded with silence. -/
theorem fitBurst_one_of_le {n : Nat} {b : List Sample} (h : b.length ≤ n) :
    fitBurst 1 n b = (padded 1 n b, false) := by
  simp [fitBurst, padded, h]

/-- A burst that fits is repeated whole as often as it fits. -/
theorem fitBurst_two_of_le {n : Nat} {b : List Sample} (hb : b ≠ []) (h : b.length ≤ n) :
    fitBurst 2 n b = (padded (n / b.length) n b, false) := by
  have hk : 1 ≤ n / b.length := Nat.div_pos h (List.length_pos_of_ne_nil hb)
  simp [fitBurst, padded, hk]

/-- A burst too long for the buffer is cut, whether it was to be repeated or not. -/
theorem fitBurst_of_lt {f : BitVec 2} {n : Nat} {b : List Sample} (hf : f = 1 ∨ f = 2) (h : n < b.length) :
    fitBurst f n b = (b.take n, true) := by
  rcases hf with rfl | rfl
  · simp [fitBurst, Nat.not_le.mpr h]
  · simp [fitBurst, Nat.div_eq_of_lt h]

/-- A fitted burst that was not cut is some number of whole copies and silence, exactly BUF_LEN samples. -/
theorem fitBurst_of_le {f : BitVec 2} {n : Nat} {b : List Sample} (hf : f = 1 ∨ f = 2) (hb : b ≠ [])
    (h : b.length ≤ n) : ∃ k, k * b.length ≤ n ∧ fitBurst f n b = (padded k n b, false) := by
  rcases hf with rfl | rfl
  · exact ⟨1, by omega, fitBurst_one_of_le h⟩
  · exact ⟨_, Nat.div_mul_le_self n b.length, fitBurst_two_of_le hb h⟩

theorem fitBurst_length {f : BitVec 2} (hf : f = 1 ∨ f = 2) (n : Nat) {b : List Sample} (hb : b ≠ []) :
    (fitBurst f n b).1.length = n := by
  rcases Nat.lt_or_ge n b.length with hlt | hle
  · rw [fitBurst_of_lt hf hlt, List.length_take, Nat.min_eq_left hlt.le]
  · obtain ⟨k, hk, hfit⟩ := fitBurst_of_le hf hb hle
    rw [hfit, padded_length hk]

theorem fitBurst_cut_iff {f : BitVec 2} (hf : f = 1 ∨ f = 2) (n : Nat) {b : List Sample} (hb : b ≠ []) :
    (fitBurst f n b).2 = true ↔ n < b.length := by
  rcases Nat.lt_or_ge n b.length with hlt | hle
  · rw [fitBurst_of_lt hf hlt]
    exact iff_of_true rfl hlt
  · obtain ⟨k, -, hfit⟩ := fitBurst_of_le hf hb hle
    rw [hfit]
    exact iff_of_false Bool.false_ne_true (by omega)

/-- Settles O44: whole copies and silence when one copy fits, and a cut copy when none does. -/
theorem fitMatchesBufferLength : Obligations.FitMatchesBufferLength := by
  refine fun b n hb => ⟨fitBurst_zero n b, fun f hf => ⟨fitBurst_length hf n hb, fitBurst_cut_iff hf n hb,
    fun hlt => congrArg Prod.fst (fitBurst_of_lt hf hlt)⟩, fun hle j hj => ⟨?_, ?_⟩⟩
  · rw [fitBurst_one_of_le hle, padded_getElem? (by omega) hj, Nat.one_mul]
    split_ifs with hlt
    · rw [Nat.mod_eq_of_lt hlt]
    · rfl
  · rw [fitBurst_two_of_le hb hle, padded_getElem? (Nat.div_mul_le_self n b.length) hj]

/-! ### TX.BURST (R136) -/

/-- TX.BURST's plan, its run written out as R136 has it; ELVL is the level put out last. -/
theorem plan_txBurst {s : State} {levels : Bits} {o : List Sample × Bool}
    (hlevels : levels = nrziEncode (frame s.pbuf s.preambleLen.toNat))
    (ho : o = fitBurst s.fit s.bufLen.toNat (burst s levels).2) :
    plan .txBurst s = .guard (burstCfgOk s) .cfg (.osq o.1.length o.1 s (withEvent o.2 .trunc { s with
      crc := crcRun 0xFFFF s.pbuf, scnt := (run stuffStep 0 (s.pbuf ++ checksum16 s.pbuf)).1,
      elvl := levels.getLastD true, dl := (burst s levels).1.dl, acc := (burst s levels).1.acc })) := by
  subst ho hlevels
  rw [nrziEncode, ← run_nrziEncStep_fst]
  rfl

theorem burst_ne_nil {s : State} (h1 : 1 ≤ s.sps.toNat) (levels : Bits) : (burst s levels).2 ≠ [] := by
  rw [← List.length_pos_iff, burst_length]
  omega

/-- With a buffer to fit to, or none wanted, a burst comes out of the fitting with some sample. -/
theorem fitBurst_length_pos {f : BitVec 2} {n : Nat} {b : List Sample} (hb : b ≠ []) (hf : f.toNat ≠ 3)
    (hn : f.toNat = 0 ∨ 0 < n) : 0 < (fitBurst f n b).1.length := by
  have hcases : f = 0 ∨ f = 1 ∨ f = 2 := by bv_omega
  rcases hcases with rfl | hf
  · exact List.length_pos_of_ne_nil hb
  · rw [fitBurst_length hf n hb]
    refine hn.resolve_left fun h0 => ?_
    bv_omega

/-- Settles O45: the plan's configuration test passes, and the fitted burst goes to OSQ whole or not at all. -/
theorem txBurstPushesFittedBurst : Obligations.TxBurstPushesFittedBurst := by
  refine ⟨rfl, fun s levels o h1 h256 hfit hbuf hlevels ho => ?_⟩
  have hplan := plan_txBurst hlevels ho
  have hcfg : burstCfgOk s = true := (burstCfgOk_iff s).mpr ⟨(spsLegal_iff s).mpr ⟨h1, h256⟩, hfit, hbuf⟩
  have hpos : 0 < o.1.length := ho ▸ fitBurst_length_pos (burst_ne_nil h1 levels) hfit hbuf
  have hexec := exec_eq_plan .txBurst s
  rw [hplan, Plan.commit_guard_of_holds hcfg] at hexec
  refine ⟨fun hroom => ?_, fun hfull => hexec.trans (congrArg _ (Plan.commit_osq_of_full hpos _ _ _ hfull))⟩
  rw [hexec, Plan.commit_of_passes (Plan.osq_passes_of_room _ _ hroom), Plan.osq_result, withEvent_eq]
  rfl

/-- Settles O59: the commands' runs join to the run of the burst, and TX.BURST pushes the same without fitting. -/
theorem burstIsItsPrimitiveCommands : Obligations.BurstIsItsPrimitiveCommands := by
  intro s levels h1 h256 hroom
  refine ⟨_, runCommands_burst levels h1 h256 hroom, rfl, burst_dl_length s levels, burst_silenced h256 levels,
    fun hfit hlevels => ?_⟩
  have hfit0 : s.fit.toNat = 0 := by rw [hfit]; rfl
  rw [← burst_length] at hroom
  obtain ⟨-, hburst⟩ := txBurstPushesFittedBurst
  obtain ⟨hexec, -⟩ := hburst s levels ((burst s levels).2, false) h1 h256 (by omega) (.inl hfit0) hlevels
    (by rw [hfit, fitBurst_zero])
  exact ⟨_, hexec hroom, rfl, rfl, rfl, rfl⟩

/-! ### Samples (R127, R137 (a)) -/

/-- What LUT-RANGE and LUT-MAG say of one entry of the table. -/
theorem lut_entry_of_wf {p : Params} (hp : p.wf = true) {x : Sample} (hx : x ∈ p.lut) :
    x.i.toInt.natAbs ≤ p.amp ∧ x.q.toInt.natAbs ≤ p.amp ∧
      (x.i.toInt ^ 2 + x.q.toInt ^ 2 - (p.amp : Int) ^ 2).natAbs ≤ 2 * p.amp := by
  simp only [Params.wf, Bool.and_eq_true, List.all_eq_true] at hp
  obtain ⟨⟨-, hall⟩, -⟩ := hp
  obtain ⟨hrange, hmag⟩ := hall x hx
  simp only [Sample.inRange, Bool.and_eq_true, decide_eq_true_eq] at hrange
  obtain ⟨hi, hq⟩ := hrange
  simp only [Sample.inMag, decide_eq_true_eq, ← pow_two] at hmag
  exact ⟨hi, hq, hmag⟩

/-- Settles O47: a sample of OSQ is silent or an entry of the table. -/
theorem samplesNeverClip : Obligations.SamplesNeverClip := by
  intro s hs x hx
  rcases hs.osq_samples x hx with rfl | hlut
  · exact ⟨Nat.zero_le _, Nat.zero_le _, fun hne => absurd rfl hne⟩
  · obtain ⟨hi, hq, hmag⟩ := lut_entry_of_wf hs.par_wf hlut
    exact ⟨hi, hq, fun _ => hmag⟩

end Sys2Proof.Machine
end

section
/-! PROOFS. Bytes as bits (20_memory.md R41; 44_frame_extractor.md R150, R158): the bits of a word determine it, every
sequence of whole bytes is the bits of its bytes, and the verifier compares bit for bit. -/

namespace Sys2Proof.Machine

theorem msbFirst_injective {n : Nat} {v w : BitVec n} (h : msbFirst n v = msbFirst n w) : v = w := by
  refine BitVec.eq_of_getLsbD_eq fun i hi => ?_
  have hbit := List.map_inj_left.mp h (n - 1 - i) (List.mem_range.mpr (by omega))
  rwa [show n - 1 - (n - 1 - i) = i by omega] at hbit

theorem msbFirst_cons {n : Nat} (b : Bool) (v : BitVec n) : msbFirst (n + 1) (v.cons b) = b :: msbFirst n v := by
  rw [msbFirst, List.range_succ_eq_map, List.map_cons, List.map_map]
  refine congrArg₂ _ (by rw [BitVec.getLsbD_cons, if_pos (by omega)]) (List.map_congr_left fun i hi => ?_)
  have hin : i < n := List.mem_range.mp hi
  rw [Function.comp_apply, BitVec.getLsbD_cons, if_neg (by omega), show n + 1 - 1 - i.succ = n - 1 - i by omega]

/-- Every sequence of `n` bits is the bits of a word. -/
theorem exists_msbFirst {n : Nat} {bits : Bits} (h : bits.length = n) : ∃ v : BitVec n, msbFirst n v = bits := by
  induction bits generalizing n with
  | nil => subst h; exact ⟨0, rfl⟩
  | cons b rest ih =>
    obtain ⟨v, hv⟩ := ih rfl
    subst h
    exact ⟨v.cons b, (msbFirst_cons b v).trans (congrArg _ hv)⟩

@[simp] theorem bitsOfBytes_nil : bitsOfBytes [] = [] := rfl

@[simp] theorem bitsOfBytes_cons (v : Byte) (rest : List Byte) :
    bitsOfBytes (v :: rest) = msbFirst 8 v ++ bitsOfBytes rest := List.flatMap_cons

theorem bitsOfBytes_append (xs ys : List Byte) : bitsOfBytes (xs ++ ys) = bitsOfBytes xs ++ bitsOfBytes ys :=
  List.flatMap_append

@[simp] theorem bitsOfBytes_length (bytes : List Byte) : (bitsOfBytes bytes).length = 8 * bytes.length := by
  induction bytes with
  | nil => rfl
  | cons v rest ih => rw [bitsOfBytes_cons, List.length_append, msbFirst_length, ih, List.length_cons]; omega

theorem exists_bitsOfBytes {k : Nat} {bits : Bits} (h : bits.length = 8 * k) : ∃ bytes, bitsOfBytes bytes = bits := by
  induction k generalizing bits with
  | zero => exact ⟨[], (List.length_eq_zero_iff.mp h).symm⟩
  | succ k ih =>
    obtain ⟨v, hv⟩ := exists_msbFirst (n := 8) (bits := bits.take 8) (by rw [List.length_take]; omega)
    obtain ⟨rest, hrest⟩ := ih (bits := bits.drop 8) (by rw [List.length_drop]; omega)
    exact ⟨v :: rest, by rw [bitsOfBytes_cons, hv, hrest, List.take_append_drop]⟩

/-- Settles O28: the last two bytes are the checksum as a word iff they are it bit for bit; the residue test is that of
`verifyOk_iff_residue`. -/
theorem verifyComparesLastTwoBytes : Obligations.VerifyComparesLastTwoBytes := by
  intro pay hi lo _
  have hresidue := verifyOk_iff_residue (fr := pay ++ [hi, lo]) (by simp)
  refine ⟨by rw [verify_append_pair], ?_, hresidue⟩
  have hword : msbFirst 16 (hi ++ lo) = msbFirst 8 hi ++ msbFirst 8 lo := msbFirst_append hi lo
  have hbits : checksum16 (bitsOfBytes pay) = msbFirst 8 hi ++ msbFirst 8 lo ↔
      checksumValue (bitsOfBytes pay) = hi ++ lo := by
    rw [← hword, checksum16]
    exact ⟨msbFirst_injective, congrArg _⟩
  rw [verify_append_pair]
  exact beq_iff_eq.trans hbits.symm

end Sys2Proof.Machine
end

section
/-! PROOFS. The byte packer (44_frame_extractor.md R150, R152): one step, a whole byte, a whole sequence, and PCK.BIT. -/

namespace Sys2Proof.Machine

open Sys2Proof.Safety

/-! ### One step (R150) -/

theorem packStep_of_lt {c : BitVec 3} (h : c.toNat < 7) (x : BitVec 8) (b : Bool) :
    packStep (x, c) b = ((x <<< 1 ||| (BitVec.ofBool b).setWidth 8, c + 1), []) := by
  have hne : c ≠ 7 := by rintro rfl; exact absurd h (by decide)
  exact if_neg hne

theorem packStep_of_eq {c : BitVec 3} (h : c.toNat = 7) (x : BitVec 8) (b : Bool) :
    packStep (x, c) b = ((0#8, 0#3), [x <<< 1 ||| (BitVec.ofBool b).setWidth 8]) := by
  obtain rfl : c = 7 := BitVec.eq_of_toNat_eq h
  rfl

/-! ### Runs (R150) -/

/-- Fewer bits than complete the byte put out nothing. -/
theorem run_packStep_of_lt {bits : Bits} {c : BitVec 3} (h : c.toNat + bits.length < 8) (x : BitVec 8) :
    (run packStep (x, c) bits).2 = [] := by
  induction bits generalizing x c with
  | nil => rfl
  | cons b rest ih =>
    rw [List.length_cons] at h
    rw [run_cons, packStep_of_lt (by omega), List.nil_append]
    exact ih (by bv_omega) _

/-- Shifting in the next bit of `v` at the low end. -/
theorem ushiftRight_shiftLeft_or_bit (v : Byte) (k : Nat) :
    (v >>> (k + 1)) <<< 1 ||| (BitVec.ofBool (v.getLsbD k)).setWidth 8 = v >>> k := by
  refine BitVec.eq_of_getLsbD_eq fun i hi => ?_
  cases i with
  | zero => simp
  | succ i => simp [Nat.add_comm, Nat.add_left_comm, hi]

/-- After the first `k` bits of `v`, `k` at most 7, the register holds them at its low end. -/
theorem run_packStep_top_bits (v : Byte) {k : Nat} (hk : k ≤ 7) :
    run packStep (0, 0) ((List.range k).map fun i => v.getLsbD (7 - i)) = ((v >>> (8 - k), BitVec.ofNat 3 k), []) := by
  induction k with
  | zero => rw [BitVec.ushiftRight_eq_zero (Nat.le_refl 8)]; rfl
  | succ k ih =>
    rw [List.range_succ, List.map_append, run_append, ih (by omega), List.map_singleton, run_cons, run_nil,
      packStep_of_lt (by rw [BitVec.toNat_ofNat]; omega), show 8 - k = 7 - k + 1 by omega,
      ushiftRight_shiftLeft_or_bit, BitVec.ofNat_add, show 8 - (k + 1) = 7 - k by omega]
    rfl

theorem run_packStep_byte (v : Byte) : run packStep (0, 0) (msbFirst 8 v) = ((0, 0), [v]) := by
  rw [msbFirst, List.range_succ, List.map_append, run_append, run_packStep_top_bits v (Nat.le_refl 7),
    List.map_singleton, run_cons, run_nil, packStep_of_eq (by decide), ushiftRight_shiftLeft_or_bit,
    BitVec.ushiftRight_zero]
  rfl

theorem run_packStep_bytes (bytes : List Byte) : run packStep (0, 0) (bitsOfBytes bytes) = ((0, 0), bytes) := by
  induction bytes with
  | nil => rfl
  | cons v rest ih =>
    rw [bitsOfBytes_cons, run_append, run_packStep_byte, ih]
    rfl

/-- Whole bytes are put out, up to seven bits left over are not. -/
theorem pack_bytes_append (bytes : List Byte) {rest : Bits} (h : rest.length < 8) :
    pack (bitsOfBytes bytes ++ rest) = bytes := by
  rw [pack, run_append, run_packStep_bytes, run_packStep_of_lt (by simpa using h), List.append_nil]

theorem pack_bitsOfBytes (bytes : List Byte) : pack (bitsOfBytes bytes) = bytes := by
  rw [pack, run_packStep_bytes]

theorem bitsOfBytes_pack {bits : Bits} (h : bits.length % 8 = 0) : bitsOfBytes (pack bits) = bits := by
  obtain ⟨bytes, rfl⟩ := exists_bitsOfBytes (Nat.eq_mul_of_div_eq_right (Nat.dvd_of_mod_eq_zero h) rfl)
  rw [pack_bitsOfBytes]

/-! ### PCK.BIT (R152) -/

section OyqCommands

variable {i : Instr} {s t : State} {out : List Byte}

theorem exec_oyq_of_room (hp : plan i s = .oyq out s t)
    (hroom : room s.par.oyqDepth s.oyq.length out.length = true) : exec i s = .next (pushOyq out t) := by
  rw [exec_eq_plan, hp]
  exact congrArg _ (emitOyq_of_room (encode i) out s t hroom)

theorem exec_oyq_of_full (hp : plan i s = .oyq out s t) (hne : out ≠ [])
    (hfull : room s.par.oyqDepth s.oyq.length out.length = false) :
    exec i s = .next (raiseCmd .qfull (encode i) s) := by
  rw [exec_eq_plan, hp]
  exact congrArg _ (emitOyq_of_full (encode i) out s t (List.length_pos_of_ne_nil hne) hfull)

/-- A command that completes no byte is never refused for lack of room. -/
theorem exec_oyq_of_nil (hp : plan i s = .oyq [] s t) : exec i s = .next t := by
  rw [exec_eq_plan, hp]
  simp [Plan.commit, Plan.oyq, pushOyq, fitsOyq]

end OyqCommands

theorem plan_pckBit {b : Bool} {s : State} {x : BitVec 8} {c : BitVec 3} {out : List Byte}
    (h : packStep (s.psr, s.pcnt) b = ((x, c), out)) :
    plan (.pckBit b) s = .oyq out s { s with psr := x, pcnt := c } := by
  rw [plan, h]

/-- Settles O48: the two kinds of step, and the runs of eight steps that bytes make. -/
theorem pckBitPacksBytes : Obligations.PckBitPacksBytes := by
  refine ⟨fun b s => ⟨decode_base_or_operand (opc := 0x41) (by decide) rfl rfl, fun hlt => ?_, fun heq hroom => ?_,
    fun heq hfull => ?_⟩, fun bytes rest hrest => pack_bytes_append bytes hrest⟩
  · exact exec_oyq_of_nil (plan_pckBit (packStep_of_lt hlt s.psr b))
  · exact exec_oyq_of_room (plan_pckBit (packStep_of_eq heq s.psr b)) hroom
  · have hword : 0x41000000#32 ||| (BitVec.ofBool b).setWidth 32 = encode (.pckBit b) :=
      mkWord_or_setWidth (by decide) 0x41 _
    rw [hword]
    exact exec_oyq_of_full (plan_pckBit (packStep_of_eq heq s.psr b)) nofun hfull

end Sys2Proof.Machine
end

section
/-! PROOFS. CLR.ALL and RX.END as their unit clears together (45_system_and_queues.md R174; 44_frame_extractor.md
R162). -/

namespace Sys2Proof.Machine

/-- Settles O20: each clear writes start values into registers that no other clear of the sequence touches, so the
sequence writes them all, and writing them again changes nothing. -/
theorem clrAllAndRxEndAreTheirClears : Obligations.ClrAllAndRxEndAreTheirClears :=
  ⟨rfl, rfl, fun _ => ⟨⟨_, rfl, rfl, rfl, rfl⟩, ⟨_, rfl, rfl, rfl, rfl⟩⟩⟩

end Sys2Proof.Machine
end

section
/-! PROOFS. Commands that deliver a frame to OFQ or the event of a dropped one (44_frame_extractor.md R156, R161). -/

namespace Sys2Proof.Machine

open Sys2Proof.Safety

@[simp] theorem pushOfq_nil (t : State) : pushOfq [] t = t := by rw [pushOfq, List.append_nil]

section FrameCommands

variable {i : Instr} {s t : State} {drop : Bool} {fr : List Byte}

/-- A command that closes no frame for OFQ is never refused for lack of room. -/
theorem exec_frame_of_none (hp : plan i s = .frame none drop s t) : exec i s = .next (withEvent drop .fovf t) := by
  have hpasses : (plan i s).Passes := by rw [hp]; simp [fitsOfq]
  rw [exec_of_passes hpasses, hp]
  exact congrArg _ (pushOfq_nil _)

theorem exec_frame_of_room (hp : plan i s = .frame (some fr) false s t)
    (hroom : room s.par.ofqDepth s.ofq.length 1 = true) : exec i s = .next (pushOfq [recordOf fr] t) := by
  rw [exec_eq_plan, hp]
  exact congrArg _ (emitOfq_of_room (encode i) [recordOf fr] s t hroom)

theorem exec_frame_of_full (hp : plan i s = .frame (some fr) drop s t)
    (hfull : room s.par.ofqDepth s.ofq.length 1 = false) : exec i s = .next (raiseCmd .qfull (encode i) s) := by
  rw [exec_eq_plan, hp]
  exact congrArg _ (emitOfq_of_full (encode i) [recordOf fr] s (withEvent drop .fovf t) Nat.one_pos hfull)

end FrameCommands

end Sys2Proof.Machine
end

section
/-! PROOFS. One byte into the extractor (44_frame_extractor.md R153): its six kinds of step, and what a command that
makes such a step does (R156, R161). -/

namespace Sys2Proof.Machine

open Sys2Proof.Safety

/-! ### One step (R153) -/

section ExtractStep

variable {x : ExtractUnit} {fm : Nat} {v : Byte}

theorem extractStep_searching (hv : v ≠ flagByte) (hst : x.st = .searching) :
    extractStep fm x v = ⟨extractStart, none, false⟩ := by
  rw [extractStep, if_neg hv, if_pos hst]
  rfl

theorem extractStep_accumulates (hv : v ≠ flagByte) (hst : x.st = .inFrame) (hlt : x.acc.length < fm) :
    extractStep fm x v = ⟨⟨.inFrame, x.acc ++ [v], x.ovl⟩, none, false⟩ := by
  rw [extractStep, if_neg hv, if_neg (by rw [hst]; nofun), if_pos hlt]

theorem extractStep_marks_overlong (hv : v ≠ flagByte) (hst : x.st = .inFrame) (hge : fm ≤ x.acc.length) :
    extractStep fm x v = ⟨⟨.inFrame, x.acc, true⟩, none, false⟩ := by
  rw [extractStep, if_neg hv, if_neg (by rw [hst]; nofun), if_neg (Nat.not_lt.mpr hge)]

/-- A flag with no frame open, or after at most 2 bytes, only opens the next frame. -/
theorem extractStep_flag_of_short (h : x.st = .searching ∨ (x.ovl = false ∧ x.acc.length ≤ 2)) :
    extractStep fm x flagByte = ⟨⟨.inFrame, [], false⟩, none, false⟩ := by
  rcases h with hst | ⟨hovl, hlen⟩
  · simp [extractStep, hst]
  · simp [extractStep, hovl, Nat.not_lt.mpr hlen]

theorem extractStep_flag_of_overlong (hst : x.st = .inFrame) (hovl : x.ovl = true) :
    extractStep fm x flagByte = ⟨⟨.inFrame, [], false⟩, none, true⟩ := by
  simp [extractStep, hst, hovl]

theorem extractStep_flag_of_frame (hst : x.st = .inFrame) (hovl : x.ovl = false) (hlen : 2 < x.acc.length) :
    extractStep fm x flagByte = ⟨⟨.inFrame, [], false⟩, some x.acc, false⟩ := by
  simp [extractStep, hst, hovl, hlen]

/-- A step that emits a frame drops none and has opened the next. -/
theorem extractStep_of_some {fr : List Byte} (h : (extractStep fm x v).out = some fr) :
    extractStep fm x v = ⟨⟨.inFrame, [], false⟩, some fr, false⟩ := by
  obtain ⟨rfl, hst, hovl, hlen, rfl⟩ := extractStep_out fm x v fr h
  exact extractStep_flag_of_frame hst hovl hlen

end ExtractStep

/-! ### A command that makes a step (R156, R161) -/

/-- In `s` the command `i` feeds the byte `y` to the extractor, and otherwise changes the state to `t`. -/
def FeedsExtractor (i : Instr) (y : Byte) (s t : State) : Prop :=
  ∀ r : ExtractResult, r = extractStep s.par.frameMax (extractUnit s) y →
    plan i s = .frame r.out r.drop s (setExtract r.unit t)

theorem feedsExtractor_xtrByte (v : Byte) (s : State) : FeedsExtractor (.xtrByte v) v s s := by
  rintro _ rfl
  rfl

namespace FeedsExtractor

variable {i : Instr} {y : Byte} {s t : State}

theorem exec_searching (h : FeedsExtractor i y s t) (hy : y ≠ flagByte) (hst : s.xst = .searching) :
    exec i s = .next (setExtract ⟨s.xst, [], false⟩ t) := by
  rw [hst]
  exact exec_frame_of_none (h _ (extractStep_searching hy hst).symm)

theorem exec_accumulates (h : FeedsExtractor i y s t) (hy : y ≠ flagByte) (hst : s.xst = .inFrame)
    (hlt : s.facc.length < s.par.frameMax) :
    exec i s = .next (setExtract ⟨s.xst, s.facc ++ [y], s.xovl⟩ t) := by
  rw [hst]
  exact exec_frame_of_none (h _ (extractStep_accumulates hy hst hlt).symm)

theorem exec_marks_overlong (h : FeedsExtractor i y s t) (hy : y ≠ flagByte) (hst : s.xst = .inFrame)
    (hge : s.par.frameMax ≤ s.facc.length) : exec i s = .next (setExtract ⟨s.xst, s.facc, true⟩ t) := by
  rw [hst]
  exact exec_frame_of_none (h _ (extractStep_marks_overlong hy hst hge).symm)

theorem exec_flag_of_short (h : FeedsExtractor i flagByte s t)
    (hshort : s.xst = .searching ∨ (s.xovl = false ∧ s.facc.length ≤ 2)) :
    exec i s = .next (setExtract ⟨.inFrame, [], false⟩ t) :=
  exec_frame_of_none (h _ (extractStep_flag_of_short hshort).symm)

theorem exec_flag_of_overlong (h : FeedsExtractor i flagByte s t) (hst : s.xst = .inFrame) (hovl : s.xovl = true) :
    exec i s = .next (setEvent .fovf (setExtract ⟨.inFrame, [], false⟩ t)) :=
  exec_frame_of_none (h _ (extractStep_flag_of_overlong hst hovl).symm)

theorem exec_flag_of_room (h : FeedsExtractor i flagByte s t) (hst : s.xst = .inFrame) (hovl : s.xovl = false)
    (hlen : 2 < s.facc.length) (hroom : room s.par.ofqDepth s.ofq.length 1 = true) :
    exec i s = .next (pushOfq [recordOf s.facc] (setExtract ⟨s.xst, [], s.xovl⟩ t)) := by
  rw [hst, hovl]
  exact exec_frame_of_room (h _ (extractStep_flag_of_frame hst hovl hlen).symm) hroom

theorem exec_flag_of_full (h : FeedsExtractor i flagByte s t) (hst : s.xst = .inFrame) (hovl : s.xovl = false)
    (hlen : 2 < s.facc.length) (hfull : room s.par.ofqDepth s.ofq.length 1 = false) :
    exec i s = .next (raiseCmd .qfull (encode i) s) :=
  exec_frame_of_full (h _ (extractStep_flag_of_frame hst hovl hlen).symm) hfull

end FeedsExtractor

/-- FLEN of `n` bytes and one more. -/
theorem flen_concat (acc : List Byte) (y : Byte) :
    BitVec.ofNat 16 (acc ++ [y]).length = BitVec.ofNat 16 (acc.length + 1) := by
  rw [List.length_append, List.length_singleton]

/-- Settles O49: the six kinds of step, the last with room for its frame and without. -/
theorem xtrByteExtracts : Obligations.XtrByteExtracts := by
  refine ⟨fun v => decode_base_or_operand (opc := 0x45) (by decide) rfl rfl, fun s v => ?_⟩
  have hbyte := feedsExtractor_xtrByte v s
  have hflag := feedsExtractor_xtrByte flagByte s
  refine ⟨hbyte.exec_searching, fun hv hst hlt => ?_, hbyte.exec_marks_overlong, hflag.exec_flag_of_short,
    hflag.exec_flag_of_overlong, fun hst hovl hlen => ⟨hflag.exec_flag_of_room hst hovl hlen,
      hflag.exec_flag_of_full hst hovl hlen⟩⟩
  rw [← flen_concat s.facc v]
  exact hbyte.exec_accumulates hv hst hlt

end Sys2Proof.Machine
end

section
/-! PROOFS. One level through the receive chain (44_frame_extractor.md R160, R161): how far it gets, and RX.LVL. -/

namespace Sys2Proof.Machine

open Sys2Proof.Safety

/-! ### One step (R160) -/

/-- The destuffer keeps every bit but the 0 after five 1-bits. -/
theorem destuffStep_keeps {c : BitVec 3} {b : Bool} (hle : c.toNat ≤ 6) (h : c.toNat ≠ 5 ∨ b = true) :
    destuffStep c b = (if b then (if c.toNat < 5 then c + 1 else 6) else 0, [b]) := by
  cases b with
  | false => exact destuffStep_false_of_ne (h.resolve_right nofun)
  | true =>
    rcases Nat.lt_or_ge c.toNat 5 with hlt | hge
    · rw [destuffStep_true_of_lt hlt, if_pos hlt]
      rfl
    · rw [destuffStep_true_of_ge hge hle, if_neg (Nat.not_lt.mpr hge)]
      rfl

section RxStep

variable {fm : Nat} {x : RxUnit} {v : Byte} {c k : BitVec 3} {q : BitVec 8} {b : Bool} {y : Byte}

theorem rxStep_discards (hd : destuffStep x.dcnt (decide (x.dprv = levelOf v)) = (c, [])) :
    rxStep fm x v = ⟨{ x with dprv := levelOf v, dcnt := c }, none, false⟩ := by
  simp only [rxStep, nrziDecStep_eq, List.headD_cons, hd]

theorem rxStep_shifts (hd : destuffStep x.dcnt (decide (x.dprv = levelOf v)) = (c, [b]))
    (hp : packStep (x.psr, x.pcnt) b = ((q, k), [])) :
    rxStep fm x v = ⟨⟨levelOf v, c, q, k, x.ext⟩, none, false⟩ := by
  simp only [rxStep, nrziDecStep_eq, List.headD_cons, hd, hp]

theorem rxStep_completes (hd : destuffStep x.dcnt (decide (x.dprv = levelOf v)) = (c, [b]))
    (hp : packStep (x.psr, x.pcnt) b = ((q, k), [y])) {e : ExtractResult} (he : e = extractStep fm x.ext y) :
    rxStep fm x v = ⟨⟨levelOf v, c, q, k, e.unit⟩, e.out, e.drop⟩ := by
  simp only [rxStep, nrziDecStep_eq, List.headD_cons, hd, hp, he]

/-- A level that closes a frame for OFQ drops none and has opened the next. -/
theorem rxStep_of_some {fr : List Byte} (h : (rxStep fm x v).out = some fr) :
    (rxStep fm x v).drop = false ∧ (rxStep fm x v).unit.ext = ⟨.inFrame, [], false⟩ := by
  rcases rxStep_cases fm x v _ _ _ rfl rfl rfl with ⟨-, hr⟩ | ⟨b, -, -, hr⟩ | ⟨b, y, -, -, hr⟩ <;> rw [hr] at h ⊢
  · exact nomatch h
  · exact nomatch h
  · rw [extractStep_of_some h]
    exact ⟨rfl, rfl⟩

end RxStep

/-! ### RX.LVL (R161) -/

section RxLvl

variable {s : State} {v : Byte}

theorem plan_rxLvl {r : RxResult} (h : rxStep s.par.frameMax (rxUnit s) v = r) :
    plan (.rxLvl v) s = .frame r.out r.drop s (setRx r.unit s) := by
  rw [← h]
  rfl

theorem exec_rxLvl_of_none {r : RxResult} (h : rxStep s.par.frameMax (rxUnit s) v = r) (hout : r.out = none) :
    exec (.rxLvl v) s = .next (withEvent r.drop .fovf (setRx r.unit s)) :=
  exec_frame_of_none ((plan_rxLvl h).trans (by rw [hout]))

theorem plan_rxLvl_of_some {r : RxResult} (h : rxStep s.par.frameMax (rxUnit s) v = r) {fr : List Byte}
    (hout : r.out = some fr) : plan (.rxLvl v) s = .frame (some fr) false s (setRx r.unit s) := by
  obtain ⟨hdrop, -⟩ := rxStep_of_some (h ▸ hout)
  rw [plan_rxLvl h, hout, ← h, hdrop]

theorem feedsExtractor_rxLvl {c k : BitVec 3} {q : BitVec 8} {b : Bool} {y : Byte}
    (hd : destuffStep s.dcnt (decide (s.dprv = levelOf v)) = (c, [b]))
    (hp : packStep (s.psr, s.pcnt) b = ((q, k), [y])) :
    FeedsExtractor (.rxLvl v) y s { s with dprv := levelOf v, dcnt := c, psr := q, pcnt := k } := by
  intro r hr
  exact plan_rxLvl (rxStep_completes (x := rxUnit s) hd hp hr)

end RxLvl

theorem word_rxLvl (v : Byte) : 0x68000000#32 ||| v.setWidth 32 = encode (.rxLvl v) :=
  mkWord_or_setWidth (by decide) 0x68 v

/-- Settles O51: a level stops at the destuffer, at the packer, or feeds the extractor a byte; there the six kinds of
step of `XTR.BYTE` follow. -/
theorem rxLvlStepsTheChain : Obligations.RxLvlStepsTheChain := by
  refine ⟨fun s v r t hr ht => ?_, fun s v level bit cnt y t hle hlevel hbit hcnt hy ht => ?_⟩
  · have ht : t = setRx r.unit s := ht
    rw [ht, word_rxLvl]
    refine ⟨decodeInvertsEncode (.rxLvl v) rfl, fun hout => ?_, fun fr hout => ?_⟩
    · rw [exec_rxLvl_of_none hr.symm hout, withEvent_eq]
      rfl
    · have hplan := plan_rxLvl_of_some hr.symm hout
      exact ⟨exec_frame_of_room hplan, exec_frame_of_full hplan⟩
  · rw [← levelOf_eq] at hlevel
    subst hlevel hbit
    rw [word_rxLvl]
    refine ⟨fun hfive hzero => ?_, fun hkept => ?_⟩
    · have hd : destuffStep s.dcnt (decide (s.dprv = levelOf v)) = (0, []) := by
        rw [hzero]
        exact destuffStep_false_of_eq hfive
      exact exec_rxLvl_of_none (rxStep_discards (x := rxUnit s) hd) rfl
    · have hd := destuffStep_keeps hle hkept
      rw [← hcnt] at hd
      refine ⟨fun hlt => ?_, fun heq => ?_⟩
      · have hp := packStep_of_lt hlt s.psr (decide (s.dprv = levelOf v))
        rw [← hy] at hp
        exact exec_rxLvl_of_none (rxStep_shifts (x := rxUnit s) hd hp) rfl
      · have hp := packStep_of_eq heq s.psr (decide (s.dprv = levelOf v))
        rw [← hy] at hp
        have hfeeds := feedsExtractor_rxLvl hd hp
        clear hy
        subst ht
        refine ⟨hfeeds.exec_searching, fun hne hst hlt => ?_, hfeeds.exec_marks_overlong, ?_, ?_, ?_⟩
        · rw [← flen_concat s.facc y]
          exact hfeeds.exec_accumulates hne hst hlt
        all_goals rintro rfl
        · exact hfeeds.exec_flag_of_short
        · exact hfeeds.exec_flag_of_overlong
        · exact fun hst hovl hlen => ⟨hfeeds.exec_flag_of_room hst hovl hlen, hfeeds.exec_flag_of_full hst hovl hlen⟩

end Sys2Proof.Machine
end

section
/-! PROOFS. Whole sequences through the extractor and through the receive chain (44_frame_extractor.md R154, R160): what
is reported of each step is a parameter, so that one theorem serves the emitted frames and the dropped ones. -/

namespace Sys2Proof.Machine

open Sys2Proof.Safety

section Reports

variable {β : Type} (report : Option (List Byte) → Bool → List β)

/-- The extractor's step for `run`, reporting of the frame it emits and of the one it drops. -/
def extractReport (fm : Nat) (x : ExtractUnit) (v : Byte) : ExtractUnit × List β :=
  ((extractStep fm x v).unit, report (extractStep fm x v).out (extractStep fm x v).drop)

/-- The receive chain's step for `run`, with the same report. -/
def rxReport (fm : Nat) (x : RxUnit) (v : Byte) : RxUnit × List β :=
  ((rxStep fm x v).unit, report (rxStep fm x v).out (rxStep fm x v).drop)

variable {report}

/-! ### The four stages one after the other (R160) -/

/-- The receive chain run over `vs` is its stages run one after the other, each over all the one before it put out. -/
theorem run_rxReport (hnone : report none false = []) {fm : Nat} {x : RxUnit} {vs : List Byte} {n : Bool × Bits}
    {d : BitVec 3 × Bits} {p : (BitVec 8 × BitVec 3) × List Byte} {e : ExtractUnit × List β}
    (hn : n = run nrziDecStep x.dprv (vs.map levelOf)) (hd : d = run destuffStep x.dcnt n.2)
    (hp : p = run packStep (x.psr, x.pcnt) d.2) (he : e = run (extractReport report fm) x.ext p.2) :
    run (rxReport report fm) x vs = (⟨n.1, d.1, p.1.1, p.1.2, e.1⟩, e.2) := by
  subst hn hd hp he
  induction vs generalizing x with
  | nil => rfl
  | cons v rest ih =>
    rw [run_cons, ih, List.map_cons, run_cons, nrziDecStep_eq, List.singleton_append, run_cons]
    rcases rxStep_cases fm x v _ _ _ rfl rfl rfl with ⟨hd, hr⟩ | ⟨b, hd, hp, hr⟩ | ⟨b, y, hd, hp, hr⟩ <;>
      rw [rxReport, hr, hd]
    · rw [hnone]
      rfl
    · rw [hnone, List.singleton_append, run_cons, hp]
      rfl
    · rw [List.singleton_append, run_cons, hp, List.singleton_append, run_cons]
      rfl

/-- From the state RX.END leaves. -/
theorem run_rxReport_rxStart (hnone : report none false = []) (fm : Nat) (vs : List Byte) :
    (run (rxReport report fm) rxStart vs).2 =
      (run (extractReport report fm) extractStart (pack (destuff (nrziDecode (vs.map levelOf))))).2 := by
  rw [run_rxReport hnone rfl rfl rfl rfl]
  rfl

/-! ### The extractor over segments (R154) -/

/-- Without a flag nothing is reported, whatever the extractor holds. -/
theorem run_extractReport_of_flagFree (hnone : report none false = []) (fm : Nat) (x : ExtractUnit) {bytes : List Byte}
    (h : ∀ v ∈ bytes, v ≠ flagByte) : (run (extractReport report fm) x bytes).2 = [] := by
  induction bytes generalizing x with
  | nil => rfl
  | cons v rest ih =>
    obtain ⟨hv, hrest⟩ := List.forall_mem_cons.mp h
    rcases extractStep_cases fm x v with ⟨hflag, -⟩ | ⟨-, hout, hdrop, -⟩
    · exact absurd hflag hv
    · rw [run_cons, extractReport, hout, hdrop, hnone, List.nil_append]
      exact ih _ hrest

/-- Before the first flag the extractor keeps its clear state. -/
theorem run_extractReport_before (hnone : report none false = []) (fm : Nat) {bytes : List Byte}
    (h : ∀ v ∈ bytes, v ≠ flagByte) : run (extractReport report fm) extractStart bytes = (extractStart, []) := by
  induction bytes with
  | nil => rfl
  | cons v rest ih =>
    obtain ⟨hv, hrest⟩ := List.forall_mem_cons.mp h
    rw [run_cons, extractReport, extractStep_searching hv rfl, ih hrest, hnone]
    rfl

/-- In a frame bytes are accumulated as long as they fit. -/
theorem run_extractReport_accumulates (hnone : report none false = []) {fm : Nat} {acc bytes : List Byte}
    (hlen : acc.length + bytes.length ≤ fm) (h : ∀ v ∈ bytes, v ≠ flagByte) :
    run (extractReport report fm) ⟨.inFrame, acc, false⟩ bytes = (⟨.inFrame, acc ++ bytes, false⟩, []) := by
  induction bytes generalizing acc with
  | nil => rw [List.append_nil]; rfl
  | cons v rest ih =>
    obtain ⟨hv, hrest⟩ := List.forall_mem_cons.mp h
    rw [List.length_cons] at hlen
    rw [run_cons, extractReport, extractStep_accumulates hv rfl (by simpa using by omega),
      ih (by simpa using by omega) hrest, hnone, List.append_assoc]
    rfl

/-- The flag that ends a segment reports it if it is longer than 2 bytes, and opens the next. -/
theorem extractReport_flag (hnone : report none false = []) (fm : Nat) (acc : List Byte) :
    extractReport report fm ⟨.inFrame, acc, false⟩ flagByte =
      (⟨.inFrame, [], false⟩, if 2 < acc.length then report (some acc) false else []) := by
  rcases Nat.lt_or_ge 2 acc.length with hlen | hlen
  · rw [extractReport, extractStep_flag_of_frame rfl rfl hlen, if_pos hlen]
  · rw [extractReport, extractStep_flag_of_short (.inr ⟨rfl, hlen⟩), if_neg (Nat.not_lt.mpr hlen), hnone]

theorem run_extractReport_segments (hnone : report none false = []) {fm : Nat} {segs : List (List Byte)}
    (h : ∀ g ∈ segs, g.length ≤ fm ∧ ∀ v ∈ g, v ≠ flagByte) :
    run (extractReport report fm) ⟨.inFrame, [], false⟩ (segs.flatMap fun g => g ++ [flagByte]) =
      (⟨.inFrame, [], false⟩, (segs.filter fun g => 2 < g.length).flatMap fun g => report (some g) false) := by
  induction segs with
  | nil => rfl
  | cons g rest ih =>
    obtain ⟨⟨hlen, hg⟩, hrest⟩ := List.forall_mem_cons.mp h
    rw [List.flatMap_cons, run_append, run_append,
      run_extractReport_accumulates hnone (by simpa using hlen) hg, run_cons, run_nil, List.nil_append,
      extractReport_flag hnone, ih hrest, List.filter_cons]
    by_cases hlong : 2 < g.length <;> simp [hlong]

/-- What the extractor reports over flag-delimited segments. -/
theorem run_extractReport_delimited (hnone : report none false = []) {fm : Nat} {before after : List Byte}
    {segs : List (List Byte)} (hbefore : ∀ v ∈ before, v ≠ flagByte) (hafter : ∀ v ∈ after, v ≠ flagByte)
    (hsegs : ∀ g ∈ segs, g.length ≤ fm ∧ ∀ v ∈ g, v ≠ flagByte) :
    (run (extractReport report fm) extractStart
        (before ++ [flagByte] ++ (segs.flatMap fun g => g ++ [flagByte]) ++ after)).2 =
      (segs.filter fun g => 2 < g.length).flatMap fun g => report (some g) false := by
  have hopen : run (extractReport report fm) extractStart [flagByte] = (⟨.inFrame, [], false⟩, []) := by
    rw [run_cons, run_nil, extractReport, extractStep_flag_of_short (.inl rfl), hnone]
    rfl
  simp only [run_append, run_extractReport_before hnone fm hbefore, hopen, run_extractReport_segments hnone hsegs,
    run_extractReport_of_flagFree hnone fm _ hafter, List.nil_append, List.append_nil]

end Reports

/-! ### The emitted frames (R154) -/

/-- Of each step the frame it emits. -/
def reportEmitted (out : Option (List Byte)) (_ : Bool) : List (List Byte) := out.toList

theorem reportEmitted_none (drop : Bool) : reportEmitted none drop = [] := rfl

theorem extractFrames_eq (fm : Nat) (bytes : List Byte) :
    extractFrames fm bytes = (run (extractReport reportEmitted fm) extractStart bytes).2 := rfl

theorem receiveFrames_eq (fm : Nat) (vs : List Byte) :
    receiveFrames fm vs = (run (rxReport reportEmitted fm) rxStart vs).2 := rfl

/-- Settles O50: the segments between the flags, and nothing of what lies outside them. -/
theorem extractFramesGivesSegments : Obligations.ExtractFramesGivesSegments := by
  intro fm before after segs hbefore hafter hsegs
  rw [extractFrames_eq, extractFrames_eq]
  refine ⟨run_extractReport_of_flagFree (reportEmitted_none false) fm extractStart hbefore, ?_⟩
  exact (run_extractReport_delimited (reportEmitted_none false) hbefore hafter hsegs).trans (List.flatMap_singleton' _)

/-- The statements write the level of a byte as a comparison. -/
theorem map_levelOf (vs : List Byte) : vs.map (fun v => decide (0 < v.toNat)) = vs.map levelOf :=
  List.map_congr_left fun v _ => (levelOf_eq v).symm

/-- Settles O52: the emitted frames are what is reported. -/
theorem receiveChainIsStagesInOrder : Obligations.ReceiveChainIsStagesInOrder := by
  intro fm vs
  rw [map_levelOf, receiveFrames_eq, extractFrames_eq]
  exact run_rxReport_rxStart (reportEmitted_none false) fm vs

end Sys2Proof.Machine
end

section
/-! PROOFS. RX.LVL for a whole sequence of levels (44_frame_extractor.md R161): the commands make the run of the receive
chain, and OFQ and ERR show what it reports. -/

namespace Sys2Proof.Machine

open Sys2Proof.Safety

theorem runCommands_append {is js : List Instr} {s t : State} (h : runCommands is s = .next t) :
    runCommands (is ++ js) s = runCommands js t := by
  induction is generalizing s with
  | nil =>
    obtain rfl := Host.Outcome.next.inj h
    rfl
  | cons i rest ih =>
    have hexec := exec_eq_plan i s
    rw [runCommands_cons hexec] at h
    rw [List.cons_append, runCommands_cons hexec, ih h]

/-- Of each step what the host sees of it: an emitted frame, or the mark `none` of an overlong frame dropped. -/
def reportClosed (out : Option (List Byte)) (drop : Bool) : List (Option (List Byte)) :=
  out.toList.map some ++ if drop then [none] else []

theorem reportClosed_eq_nil_iff {out : Option (List Byte)} {drop : Bool} :
    reportClosed out drop = [] ↔ out = none ∧ drop = false := by
  cases out <;> cases drop <;> simp [reportClosed]

theorem eq_some_of_reportClosed {out : Option (List Byte)} {drop : Bool} {fr : List Byte}
    (h : reportClosed out drop = [some fr]) : out = some fr := by
  cases out with
  | none => cases drop <;> simp [reportClosed] at h
  | some fr' => simp_all [reportClosed]

/-- What the host sees of frames, and the hardware constants, are in `t` those of `s`. -/
structure SameReports (s t : State) : Prop where
  ofq : t.ofq = s.ofq
  err : t.err = s.err
  errcmd : t.errcmd = s.errcmd
  par : t.par = s.par

theorem rxUnit_setRx (x : RxUnit) (s : State) : rxUnit (setRx x s) = x := rfl

theorem setRx_sameReports (x : RxUnit) (s : State) : SameReports s (setRx x s) := ⟨rfl, rfl, rfl, rfl⟩

/-- Levels over which nothing is reported change the receive chain's registers only. -/
theorem runCommands_rxLvl_of_unreported {vs : List Byte} {s : State}
    (h : (run (rxReport reportClosed s.par.frameMax) (rxUnit s) vs).2 = []) :
    ∃ u, runCommands (vs.map .rxLvl) s = .next u ∧
      rxUnit u = (run (rxReport reportClosed s.par.frameMax) (rxUnit s) vs).1 ∧ SameReports s u := by
  induction vs generalizing s with
  | nil => exact ⟨s, rfl, rfl, rfl, rfl, rfl, rfl⟩
  | cons v rest ih =>
    rw [run_cons] at h ⊢
    obtain ⟨hfirst, hrest⟩ := List.append_eq_nil_iff.mp h
    obtain ⟨hout, hdrop⟩ := reportClosed_eq_nil_iff.mp hfirst
    have hexec := exec_rxLvl_of_none rfl hout
    rw [hdrop] at hexec
    have hsame := setRx_sameReports (rxStep s.par.frameMax (rxUnit s) v).unit s
    obtain ⟨u, hrun, hunit, hu⟩ := ih (s := setRx (rxStep s.par.frameMax (rxUnit s) v).unit s) hrest
    exact ⟨u, (runCommands_cons hexec _).trans hrun, hunit, hu.ofq.trans hsame.ofq, hu.err.trans hsame.err,
      hu.errcmd.trans hsame.errcmd, hu.par.trans hsame.par⟩

/-- A level that emits a frame pushes its record and has opened the next frame. -/
theorem exec_rxLvl_of_some {s : State} {v : Byte} {fr : List Byte}
    (hout : (rxStep s.par.frameMax (rxUnit s) v).out = some fr)
    (hroom : room s.par.ofqDepth s.ofq.length 1 = true) :
    ∃ t, exec (.rxLvl v) s = .next t ∧ t.ofq = s.ofq ++ [recordOf fr] ∧ t.err = s.err ∧ t.errcmd = s.errcmd ∧
      t.xst = .inFrame ∧ t.facc = [] := by
  obtain ⟨-, hext⟩ := rxStep_of_some hout
  exact ⟨_, exec_frame_of_room (plan_rxLvl_of_some rfl hout) hroom, rfl, rfl, rfl, congrArg ExtractUnit.st hext,
    congrArg ExtractUnit.acc hext⟩

end Sys2Proof.Machine
end

section
/-! PROOFS. The loop property (44_frame_extractor.md R164): what a transmitted frame is after each stage of the receive
chain, with its last bit and without, and that RX.LVL delivers it on the last level. -/

namespace Sys2Proof.Machine

open Sys2Proof.Safety

/-! ### The preamble (41_stuffing_framing.md R102) -/

/-- The preamble alternates, so it has no two 1-bits in a row. -/
theorem preamble_not_five_ones (n : Nat) : ¬ List.replicate 5 true <:+: preamble n := by
  rintro ⟨xs, ys, h⟩
  have hbit : ∀ k < 5, (preamble n)[xs.length + k]? = some true := by
    intro k hk
    rw [← h, List.append_assoc, List.getElem?_append_right (by omega), Nat.add_sub_cancel_left,
      List.getElem?_append_left (by simpa using hk), List.getElem?_replicate_of_lt hk]
  have hodd : ∀ k < 5, (xs.length + k) % 2 = 1 := by
    intro k hk
    obtain ⟨hlt, -⟩ := List.getElem?_eq_some_iff.mp (hbit k hk)
    rw [preamble_length] at hlt
    simpa [preamble_getElem? hlt] using hbit k hk
  have hfirst := hodd 0 (by decide)
  have hsecond := hodd 1 (by decide)
  omega

/-- Eight bits of preamble are the byte 0x55. -/
theorem preamble_bytes (k : Nat) : preamble (8 * k) = bitsOfBytes (List.replicate k 0x55) := by
  induction k with
  | zero => rfl
  | succ k ih =>
    have hparity : (fun i => i % 2 == 1) ∘ (8 * k + ·) = fun i : Nat => i % 2 == 1 := by
      funext i
      rw [Function.comp_apply, show (8 * k + i) % 2 = i % 2 by omega]
    have hbyte : preamble 8 = bitsOfBytes [0x55] := rfl
    rw [List.replicate_succ', bitsOfBytes_append, ← ih, ← hbyte, preamble, preamble, preamble, Nat.mul_succ,
      List.range_add, List.map_append, List.map_map, hparity]

/-! ### The frame without its last bit -/

/-- The frame but for the 0 that ends its closing flag. -/
def openFrame (p : Bits) (n : Nat) : Bits :=
  preamble n ++ flagBits ++ stuff (p ++ checksum16 p) ++ false :: List.replicate 6 true

theorem frame_eq_openFrame (p : Bits) (n : Nat) : frame p n = openFrame p n ++ [false] := by
  rw [openFrame, List.append_assoc _ _ [false]]
  rfl

/-- The encoder puts out one level more for one bit more. -/
theorem nrziEncode_concat (bits : Bits) (b : Bool) : ∃ l, nrziEncode (bits ++ [b]) = nrziEncode bits ++ [l] :=
  ⟨_, by rw [nrziEncode, run_append, run_cons, run_nil, nrziEncStep_eq]; rfl⟩

theorem destuff_openFrame (p : Bits) (n : Nat) :
    destuff (openFrame p n) = preamble n ++ flagBits ++ (p ++ checksum16 p) ++ false :: List.replicate 6 true := by
  obtain ⟨c, hc, hpreamble⟩ :=
    run_destuffStep_of_not_five_ones (bits := preamble n) (c := 0) (preamble_not_five_ones n)
  obtain ⟨c', hc', hbody⟩ := (stuff_stuffed (p ++ checksum16 p)).run_destuffStep
  have hflag : run destuffStep c' (false :: List.replicate 6 true) = (6, false :: List.replicate 6 true) := by
    rw [run_cons, destuffStep_false_of_ne (by omega)]
    rfl
  rw [destuff, openFrame]
  simp only [run_append, hpreamble, run_destuffStep_flagBits hc, hbody, hflag]

/-! ### Whole bytes -/

section WholeBytes

variable {p : Bits} {n : Nat}

/-- The payload and its checksum as bytes: what the record of the frame holds. -/
theorem bitsOfBytes_pack_checksum (hp : p.length % 8 = 0) :
    bitsOfBytes (pack (p ++ checksum16 p)) = p ++ checksum16 p :=
  bitsOfBytes_pack (by rw [List.length_append, checksum16_length]; omega)

theorem pack_checksum_length (hp : p.length % 8 = 0) : (pack (p ++ checksum16 p)).length = p.length / 8 + 2 := by
  have hlen := congrArg List.length (bitsOfBytes_pack_checksum hp)
  rw [bitsOfBytes_length, List.length_append, checksum16_length] at hlen
  omega

/-- The record's `ok`: the residue of a message and its checksum (R86 (a), R158). -/
theorem verifyOk_pack_checksum (hp : p.length % 8 = 0) : verifyOk (pack (p ++ checksum16 p)) = true := by
  rw [verifyOk_iff_residue (by rw [pack_checksum_length hp]; omega), bitsOfBytes_pack_checksum hp]
  exact crcRun_append_checksum16 p

/-- The bytes of preamble, flag, payload and checksum. -/
theorem bitsOfBytes_frame_bytes (hp : p.length % 8 = 0) (hn : n % 8 = 0) :
    bitsOfBytes (List.replicate (n / 8) 0x55 ++ [flagByte] ++ pack (p ++ checksum16 p)) =
      preamble n ++ flagBits ++ (p ++ checksum16 p) := by
  have hflag : bitsOfBytes [flagByte] = flagBits := rfl
  rw [bitsOfBytes_append, bitsOfBytes_append, ← preamble_bytes, bitsOfBytes_pack_checksum hp, hflag,
    Nat.mul_div_cancel' (Nat.dvd_of_mod_eq_zero hn)]

theorem pack_destuff_openFrame (hp : p.length % 8 = 0) (hn : n % 8 = 0) :
    pack (destuff (openFrame p n)) = List.replicate (n / 8) 0x55 ++ [flagByte] ++ pack (p ++ checksum16 p) := by
  rw [destuff_openFrame, ← bitsOfBytes_frame_bytes hp hn]
  exact pack_bytes_append _ (by simp)

theorem pack_destuff_frame (hp : p.length % 8 = 0) (hn : n % 8 = 0) :
    pack (destuff (frame p n)) =
      List.replicate (n / 8) 0x55 ++ [flagByte] ++ pack (p ++ checksum16 p) ++ [flagByte] := by
  have hflag : flagBits = bitsOfBytes [flagByte] := rfl
  rw [frame, destuff_frame _ (preamble_not_five_ones n), ← bitsOfBytes_frame_bytes hp hn, hflag,
    ← bitsOfBytes_append, pack_bitsOfBytes]

/-! ### What is reported (R164) -/

theorem replicate_ne_flagByte (k : Nat) : ∀ v ∈ List.replicate k (0x55 : Byte), v ≠ flagByte := by
  intro v hv
  rw [List.eq_of_mem_replicate hv]
  decide

/-- The closing flag not yet complete, nothing is reported. -/
theorem run_rxReport_openFrame (fm : Nat) {vs : List Byte} (hp : p.length % 8 = 0) (hn : n % 8 = 0)
    (hflagFree : ∀ v ∈ pack (p ++ checksum16 p), v ≠ flagByte) (hvs : vs.map levelOf = nrziEncode (openFrame p n)) :
    (run (rxReport reportClosed fm) rxStart vs).2 = [] := by
  have hdelimited := run_extractReport_delimited (report := reportClosed) (fm := fm) (segs := []) rfl
    (replicate_ne_flagByte (n / 8)) hflagFree nofun
  rw [List.flatMap_nil, List.append_nil] at hdelimited
  rw [run_rxReport_rxStart rfl, hvs, nrziDecode, nrziEncode, run_nrziDecStep_encode, pack_destuff_openFrame hp hn]
  exact hdelimited

/-- The whole frame is reported once. -/
theorem run_rxReport_frame {fm : Nat} {vs : List Byte} (hp : p.length % 8 = 0) (hpos : 8 ≤ p.length) (hn : n % 8 = 0)
    (hfm : p.length / 8 + 2 ≤ fm) (hflagFree : ∀ v ∈ pack (p ++ checksum16 p), v ≠ flagByte)
    (hvs : vs.map levelOf = nrziEncode (frame p n)) :
    (run (rxReport reportClosed fm) rxStart vs).2 = [some (pack (p ++ checksum16 p))] := by
  have hlen := pack_checksum_length hp
  have hdelimited := run_extractReport_delimited (report := reportClosed) (fm := fm) (after := [])
    (segs := [pack (p ++ checksum16 p)]) rfl (replicate_ne_flagByte (n / 8)) nofun
    (List.forall_mem_singleton.mpr ⟨by omega, hflagFree⟩)
  have hlong : 2 < (pack (p ++ checksum16 p)).length := by omega
  rw [List.flatMap_singleton, List.append_nil, ← List.append_assoc, List.filter_singleton, decide_eq_true hlong]
    at hdelimited
  rw [run_rxReport_rxStart rfl, hvs, nrziDecode, nrziEncode, run_nrziDecStep_encode, pack_destuff_frame hp hn]
  exact hdelimited

end WholeBytes

/-- Settles O53: up to the last level nothing is reported, so the one report of the whole run is the last level's. -/
theorem transmittedFrameIsReceived : Obligations.TransmittedFrameIsReceived := by
  intro s0 s p n vs hend hroom hp hpos hn hfm hflagFree hvs
  have hstart : rxUnit s = rxStart := by
    obtain rfl := Host.Outcome.next.inj hend
    rfl
  rw [map_levelOf] at hvs
  have hframe := run_rxReport_frame hp hpos hn hfm hflagFree hvs
  obtain ⟨l, hl⟩ := nrziEncode_concat (openFrame p n) false
  rw [frame_eq_openFrame, hl] at hvs
  obtain ⟨before, lasts, rfl, hbefore, hlasts⟩ := List.map_eq_append_iff.mp hvs
  obtain ⟨last, rfl, -⟩ := List.map_eq_singleton_iff.mp hlasts
  have hopen := run_rxReport_openFrame s.par.frameMax hp hn hflagFree hbefore
  rw [← hstart] at hframe hopen
  obtain ⟨u, hrun, hunit, hu⟩ := runCommands_rxLvl_of_unreported hopen
  have hlast : (rxStep u.par.frameMax (rxUnit u) last).out = some (pack (p ++ checksum16 p)) := by
    rw [run_append, hopen, List.nil_append, run_cons, run_nil, List.append_nil] at hframe
    rw [hunit, hu.par]
    exact eq_some_of_reportClosed hframe
  obtain ⟨t, hexec, hofq, herr, herrcmd, hxst, hfacc⟩ :=
    exec_rxLvl_of_some hlast (by rw [hu.par, hu.ofq]; exact hroom)
  refine ⟨before, last, rfl, ⟨u, hrun, hu.ofq, hu.err⟩, t, ?_, ?_, herr.trans hu.err, herrcmd.trans hu.errcmd, hxst,
    hfacc⟩
  · rw [List.map_append, runCommands_append hrun]
    exact runCommands_cons hexec []
  · rw [hofq, hu.ofq, recordOf, verifyOk_pack_checksum hp]

end Sys2Proof.Machine
end

section
/-! PROOFS. One access performed by a step (45_system_and_queues.md R170, R171; 20_memory.md R46;
70_reset_and_hazards.md R210). -/

namespace Sys2Proof.Machine

theorem execute_of_decode_ok {w : Word} {i : Instr} (hok : decode w = .ok i) (s : State) :
    execute w s = exec i s := by
  rw [execute, hok]

/-- Settles O5: the step performs the write to CMD, which executes the word, and the word is that of `i`. -/
theorem stepRunsDecodedCommand : Obligations.StepRunsDecodedCommand := by
  intro s w rest i hbus hok
  calc step s = perform (.write 0 w) (accept rest s) := step_of_pending hbus
    _ = execute w (accept rest s) := rfl
    _ = exec i (accept rest s) := execute_of_decode_ok hok _

/-- Settles O7: a pending access of any kind is performed on the accepted state; with none pending the step is the state
itself. -/
theorem stepPerformsHostAccess : Obligations.StepPerformsHostAccess := by
  intro s rest
  refine ⟨fun n hbus => ?read, fun n v _ hbus => ?write, fun hbus => ?reset, fun hbus => ?idle⟩
  case read | write | reset => exact step_of_pending hbus
  case idle => rw [step, hbus]

end Sys2Proof.Machine
end

section
/-! PROOFS. What a command can do to the error record (60_exceptions.md R191, R195, R198; 45_system_and_queues.md
R171). -/

namespace Sys2Proof.Machine

/-- ERRCMD of `t` is that of `s`, and so is ERR but for at most one event flag (60_exceptions.md R198). -/
def AtMostOneEvent (s t : State) : Prop :=
  t.errcmd = s.errcmd ∧ (t.err = s.err ∨ ∃ k, t.err = eventAfter k s.err)

/-- Registers stored before the event is set do not touch the error record. -/
theorem atMostOneEvent_withEvent (met : Bool) (k : EventKind) {s t : State} (herr : t.err = s.err)
    (herrcmd : t.errcmd = s.errcmd) : AtMostOneEvent s (withEvent met k t) := by
  cases met with
  | false => exact ⟨herrcmd, .inl herr⟩
  | true => exact ⟨herrcmd, .inr ⟨k, congrArg (eventAfter k) herr⟩⟩

/-- The three commands with an event set it, if it is met, on their unit's registers; the others leave the error record
alone, but for SRST. -/
theorem plan_atMostOneEvent (i : Instr) (s : State) (hi : i ≠ .srst) : AtMostOneEvent s (plan i s).result := by
  cases i with
  | srst => exact absurd rfl hi
  | xtrByte v => exact atMostOneEvent_withEvent _ .fovf rfl rfl
  | rxLvl v => exact atMostOneEvent_withEvent _ .fovf rfl rfl
  | txBurst => exact atMostOneEvent_withEvent _ .trunc rfl rfl
  | _ => exact ⟨rfl, .inl rfl⟩

/-- TRUNC and FOVF as the bits 8 and 9 of ERR (10_state.md R30). -/
theorem err_bits_of_event {e e' : Word} (h : e' = e ∨ ∃ k, e' = eventAfter k e) :
    e' = e ∨ e' = e ||| 0x00000100 ∨ e' = e ||| 0x00000200 := by
  obtain h | ⟨k, h⟩ := h
  · exact .inl h
  · cases k with
    | trunc => exact .inr (.inl h)
    | fovf => exact .inr (.inr h)

/-- Settles O14: a command records one error, or its plan's whole effect meets at most one event. -/
theorem commandRaisesOrCompletes : Obligations.CommandRaisesOrCompletes := by
  intro i s hi
  refine ⟨_, exec_eq_plan i s, ?_⟩
  rcases exec_cases (exec_eq_plan i s) with ⟨-, hresult⟩ | hraised
  · rw [hresult]
    obtain ⟨herrcmd, herr⟩ := plan_atMostOneEvent i s hi
    exact .inr ⟨herrcmd, err_bits_of_event herr⟩
  · exact .inl hraised

end Sys2Proof.Machine
end

section
/-! PROOFS. The system and queue commands SRST, Q.FLUSH and FRQ.DROP (45_system_and_queues.md R173, R175, R176). -/

namespace Sys2Proof.Machine

/-- What the views show right after a reset (10_state.md R39). -/
theorem resetWith_views (p : Params) (n : Nat) :
    stCrcView (State.resetWith p n) = 0x0000FFFF ∧ stCodecView (State.resetWith p n) = 0x00000300 ∧
      statusView (State.resetWith p n) = 0 := by
  obtain ⟨-, -, -, -, -, -, -, -, -, -, -, -, -, -, -, -, -, -, -, -, -, -, -, -, -, -, -, -, -, -, -, hviews⟩ :=
    resetValuesOfEveryRegister p n _ rfl
  exact hviews

/-- Settles O21: the views depend on none of the fields SRST keeps, so they read as after a reset; COEF's entries depend
on nothing else. -/
theorem srstRestoresAllButCoef : Obligations.SrstRestoresAllButCoef := by
  refine ⟨rfl, fun s => ⟨_, rfl, rfl, fun k => rfl, ?_⟩⟩
  obtain ⟨hcrc, hcodec, hstatus⟩ := resetWith_views s.par s.resets
  exact ⟨hstatus, rfl, hcrc, hcodec⟩

/-- Settles O22: each bit of the mask decides for its own queue alone. -/
theorem flushEmptiesSelectedQueues : Obligations.FlushEmptiesSelectedQueues := by
  intro m s
  have hword : decode (0x03000000#32 ||| m.setWidth 32) = .ok (.qFlush m) :=
    decode_base_or_operand (opc := 0x03) (by decide) rfl rfl
  refine ⟨_, rfl, hword, ?obq, ?obqKept, ?oyq, ?oyqKept, ?ofq, ?ofqKept, ?osq, ?osqKept, rfl⟩
  case ofq => exact fun h => ⟨if_pos h, if_pos h⟩
  case ofqKept => exact fun h => ⟨if_neg (ne_true_of_eq_false h), if_neg (ne_true_of_eq_false h)⟩
  case obq | oyq | osq => exact fun h => if_pos h
  case obqKept | oyqKept | osqKept => exact fun h => if_neg (ne_true_of_eq_false h)

/-- Settles O23: the one test of FRQ.DROP is whether there is a record. -/
theorem dropRemovesHeadFrame : Obligations.DropRemovesHeadFrame := by
  refine ⟨rfl, fun s => ?_⟩
  have hexec : exec .frqDrop s = .next
      (commitIf (!s.ofq.isEmpty) .qempty (encode .frqDrop) s { s with ofq := s.ofq.tail, frd := 0 }) := rfl
  refine ⟨fun r rest hq => ?_, fun hq => ?_⟩
  · rw [hexec, hq]
    rfl
  · rw [hexec, hq]
    rfl

end Sys2Proof.Machine
end

section
/-! PROOFS. The coefficient RAM as the host reaches it, through COEF_DATA and CADDR (10_state.md R28, R34;
45_system_and_queues.md R181). -/

namespace Sys2Proof.Machine

/-- An entry reads as it was inserted, whatever CADDR is by then. -/
theorem coefAt_insert_same (s : State) (k : Nat) (x : BitVec 25) (a : BitVec 12) :
    coefAt { s with coef := coefInsert k x s.coef, caddr := a } k = x := by
  simp [coefAt]

theorem coefAt_insert_other (s : State) {j k : Nat} (hne : j ≠ k) (x : BitVec 25) (a : BitVec 12) :
    coefAt { s with coef := coefInsert k x s.coef, caddr := a } j = coefAt s j := by
  simp [coefAt, coefFind_insert_other k j x s.coef hne]

/-- The next address is the old one plus 1, with no wrap at 12 bits. -/
theorem caddr_next {a : BitVec 12} (h : a.toNat < Config.coefDepth) : (a + 1).toNat = a.toNat + 1 := by
  simp only [Config.coefDepth] at h
  bv_omega

theorem coefRead_of_lt {s : State} (h : s.caddr.toNat < Config.coefDepth) :
    coefRead s = ({ s with caddr := s.caddr + 1 }, (coefAt s s.caddr.toNat).setWidth 32) :=
  if_neg (Nat.not_le.mpr h)

/-- COEF_DATA shows the entry CADDR with 0 above it. -/
theorem regRead_coefData_value {s : State} {x : BitVec 25} (hx : coefAt s s.caddr.toNat = x)
    (h : s.caddr.toNat < Config.coefDepth) : (regRead 12 s).2 = x.setWidth 32 := by
  rw [← hx]
  exact congrArg Prod.snd (coefRead_of_lt h)

theorem coefRead_of_le {s : State} (h : Config.coefDepth ≤ s.caddr.toNat) :
    coefRead s = (raiseAccess .regacc s, 0) :=
  if_pos h

theorem coefWrite_of_lt (v : Word) {s : State} (h : s.caddr.toNat < Config.coefDepth) : coefWrite v s =
    { s with coef := coefInsert s.caddr.toNat (v.setWidth 25) s.coef, caddr := s.caddr + 1 } :=
  if_neg (Nat.not_le.mpr h)

theorem coefWrite_of_le (v : Word) {s : State} (h : Config.coefDepth ≤ s.caddr.toNat) :
    coefWrite v s = raiseAccess .regacc s :=
  if_pos h

/-- Settles O55: a write inserts at the index CADDR, so that index, and no other, reads as the 25 bits written. -/
theorem coefReadsBackAsWritten : Obligations.CoefReadsBackAsWritten := by
  intro s v
  refine ⟨fun hlt => ⟨?write, ?leaves, ?returns⟩, fun hle => ⟨?refusedWrite, coefRead_of_le hle⟩⟩
  case refusedWrite => exact congrArg Host.Outcome.next (coefWrite_of_le v hle)
  case write =>
    refine ⟨_, congrArg Host.Outcome.next (coefWrite_of_lt v hlt), rfl, caddr_next hlt, ?_, fun k hne => ?_, ?_⟩
    · rw [coefAt_insert_same, BitVec.setWidth_eq_extractLsb' (by decide)]
    · exact coefAt_insert_other s hne _ _
    · have hentry := coefAt_insert_same s s.caddr.toNat (v.setWidth 25) s.caddr
      have hread := regRead_coefData_value hentry hlt
      exact hread.trans (setWidth_setWidth_eq_and 25 v)
  case leaves =>
    refine (congrArg Prod.fst (coefRead_of_lt hlt)).trans ?_
    rw [BitVec.ofNat_add, BitVec.ofNat_toNat, BitVec.setWidth_eq]
    rfl
  case returns =>
    rw [regRead_coefData_value rfl hlt]
    exact BitVec.toNat_setWidth_of_le (by decide)

end Sys2Proof.Machine
end

section
/-! PROOFS. The pop registers (10_state.md R33; 45_system_and_queues.md R177 to R180). -/

namespace Sys2Proof.Machine

/-! ### The returned words as numbers -/

/-- The high part of a word counts from above the low part. -/
theorem toNat_append_eq_add {m n : Nat} (x : BitVec m) (y : BitVec n) :
    (x ++ y).toNat = x.toNat * 2 ^ n + y.toNat := by
  rw [BitVec.toNat_append, ← Nat.shiftLeft_add_eq_or_of_lt y.isLt, Nat.shiftLeft_eq]

/-- VALID stands above a value that leaves it free. -/
theorem toNat_validBit_or {n : Nat} (hn : n ≤ 31) (x : BitVec n) :
    (validBit ||| x.setWidth 32).toNat = 2 ^ 31 + x.toNat := by
  have hx : x.toNat < 2 ^ 31 := x.isLt.trans_le (Nat.pow_le_pow_right (by decide) hn)
  rw [BitVec.toNat_or, BitVec.toNat_setWidth_of_le (by omega)]
  exact (Nat.two_pow_add_eq_or_of_lt hx 1).symm

/-- A word of two fields widened: each field at its place. -/
theorem setWidth_append_eq_or {m n k : Nat} (x : BitVec m) (y : BitVec n) :
    (x ++ y).setWidth k = x.setWidth k <<< n ||| y.setWidth k := by
  ext i hi
  by_cases hlow : i < n
  · simp [BitVec.getLsbD_append, hlow]
  · simp [BitVec.getLsbD_append, hlow, BitVec.getLsbD_of_ge y i (Nat.le_of_not_lt hlow)]

theorem bit1_toNat (b : Bool) : (bit1 b).toNat = if b then 1 else 0 := by cases b <;> rfl

/-! ### OBQ_POP, OYQ_POP and OSQ_POP (R177, R178, R180) -/

section Reads

variable {s : State}

theorem readObqPop_nil (hq : s.obq = []) : readObqPop s = (raiseAccess .qempty s, 0) := by
  rw [readObqPop, hq]
  rfl

theorem readObqPop_cons {b : Bool} {rest : List Bool} (hq : s.obq = b :: rest) :
    readObqPop s = ({ s with obq := rest }, validBit ||| (bit1 b).setWidth 32) := by
  rw [readObqPop, hq]

theorem readOyqPop_nil (hq : s.oyq = []) : readOyqPop s = (raiseAccess .qempty s, 0) := by
  rw [readOyqPop, hq]
  rfl

theorem readOyqPop_cons {y : Byte} {rest : List Byte} (hq : s.oyq = y :: rest) :
    readOyqPop s = ({ s with oyq := rest }, validBit ||| y.setWidth 32) := by
  rw [readOyqPop, hq]

theorem readOsqPop_nil (hq : s.osq = []) : readOsqPop s = (raiseAccess .qempty s, 0) := by
  rw [readOsqPop, hq]
  rfl

theorem readOsqPop_cons {x : Sample} {rest : List Sample} (hq : s.osq = x :: rest) :
    readOsqPop s = ({ s with osq := rest }, x.q ++ x.i) := by
  rw [readOsqPop, hq]

/-! ### OFQ_HEAD and OFQ_DATA (R179) -/

theorem ofqHeadView_nil (hq : s.ofq = []) : ofqHeadView s = 0 := by
  rw [ofqHeadView, hq]

variable {fr : FrameRecord} {rest : List FrameRecord}

/-- OK and LEN are one field of 17 bits below VALID. -/
theorem ofqHeadView_cons (hq : s.ofq = fr :: rest) :
    ofqHeadView s = validBit ||| (bit1 fr.ok ++ BitVec.ofNat 16 fr.bytes.length).setWidth 32 := by
  simp only [ofqHeadView, hq, setWidth_append_eq_or, BitVec.or_assoc]

theorem ofqHeadView_toNat (hq : s.ofq = fr :: rest) (hlen : fr.bytes.length < 2 ^ 16) :
    (ofqHeadView s).toNat = 2 ^ 31 + (if fr.ok then 2 ^ 16 else 0) + fr.bytes.length := by
  rw [ofqHeadView_cons hq, toNat_validBit_or (by decide), toNat_append_eq_add, bit1_toNat, BitVec.toNat_ofNat,
    Nat.mod_eq_of_lt hlen, ite_mul, one_mul, zero_mul, Nat.add_assoc]

theorem readOfqData_nil (hq : s.ofq = []) : readOfqData s = (raiseAccess .qempty s, 0) := by
  rw [readOfqData, hq]
  rfl

theorem readOfqData_of_none (hq : s.ofq = fr :: rest) (hbyte : fr.bytes[s.frd.toNat]? = none) :
    readOfqData s = (raiseAccess .qempty s, 0) := by
  simp only [readOfqData, hq, hbyte]
  rfl

theorem readOfqData_of_some (hq : s.ofq = fr :: rest) {y : Byte} (hbyte : fr.bytes[s.frd.toNat]? = some y) :
    readOfqData s = ({ s with frd := s.frd + 1 }, validBit ||| y.setWidth 32) := by
  simp only [readOfqData, hq, hbyte]

end Reads

/-! ### The pop registers as the host reads and writes them -/

/-- The pop registers and OFQ_HEAD are read-only (60_exceptions.md R197). -/
theorem regWrite_pop_refused : ∀ n ∈ [20, 22, 24, 25, 27], ∀ (v : Word) (s : State),
    regWrite n v s = .next (raiseAccess .regacc s) := by
  intro n hn v s
  fin_cases hn <;> rfl

/-- Settles O56: each queue is empty or has a head, and the word returned is VALID above the head's fields. -/
theorem popRegistersReturnHead : Obligations.PopRegistersReturnHead := by
  intro s
  refine ⟨readObqPop_nil, fun b rest hq => ?obq, readOyqPop_nil, fun y rest hq => ?oyq,
    fun hq => ⟨congrArg (s, ·) (ofqHeadView_nil hq), readOfqData_nil hq⟩,
    fun fr rest hq hlen => ⟨⟨rfl, ofqHeadView_toNat hq hlen⟩, fun hend => ?ofqEnd, fun y hbyte => ?ofqByte⟩,
    readOsqPop_nil, fun x rest hq => ?osq, fun n hn v => regWrite_pop_refused n hn v s⟩
  case obq =>
    refine (readObqPop_cons hq).trans (congrArg (Prod.mk _) ?_)
    cases b <;> rfl
  case oyq =>
    have hread : regRead 22 s = _ := readOyqPop_cons hq
    rw [hread]
    exact ⟨rfl, toNat_validBit_or (by decide) y⟩
  case ofqEnd => exact readOfqData_of_none hq (List.getElem?_eq_none hend)
  case ofqByte =>
    have hread : regRead 25 s = _ := readOfqData_of_some hq hbyte
    rw [hread]
    exact ⟨rfl, toNat_validBit_or (by decide) y⟩
  case osq =>
    have hread : regRead 27 s = _ := readOsqPop_cons hq
    rw [hread]
    exact ⟨rfl, toNat_append_eq_add x.q x.i⟩

end Sys2Proof.Machine
end

section
/-! PROOFS. The error record bit by bit (60_exceptions.md R190, R191, R202; 10_state.md R30). -/

namespace Sys2Proof.Machine

/-- LASTCODE stands in the bits 16 to 23. -/
theorem lastCodeMask_bits : ∀ i < 32, lastCodeMask.getLsbD i = decide (16 ≤ i ∧ i < 24) := by decide

/-- A flag of an error is a bit of ERR. -/
theorem errBit_lt (k : ErrKind) : errBit k < 32 := by cases k <;> decide

/-- A code has no bit above the eight of LASTCODE. -/
theorem errCode_lt (k : ErrKind) : (errCode k).toNat < 2 ^ 8 := by cases k <;> decide

/-- A code shifted to bit 16 stands in LASTCODE and nowhere else. -/
theorem errCode_shifted_bit (k : ErrKind) {i : Nat} (hi : i < 32) :
    (errCode k <<< 16).getLsbD i = (decide (16 ≤ i ∧ i < 24) && (errCode k).toNat.testBit (i - 16)) := by
  rw [BitVec.getLsbD_shiftLeft, decide_eq_true hi, Bool.true_and]
  by_cases hlow : i < 16
  · simp [hlow, Nat.not_le.mpr hlow]
  by_cases hhigh : i < 24
  · simp [hlow, hhigh, Nat.le_of_not_lt hlow, BitVec.getLsbD]
  · have hzero : (errCode k).toNat.testBit (i - 16) = false :=
      Nat.testBit_lt_two_pow ((errCode_lt k).trans_le (Nat.pow_le_pow_right (by decide) (by omega)))
    simp [BitVec.getLsbD, hzero]

/-- ERR after an error: its code in LASTCODE, and outside LASTCODE its flag set and every other bit kept (R191). -/
theorem errAfter_bit (k : ErrKind) (e : Word) {i : Nat} (hi : i < 32) :
    (errAfter k e).getLsbD i = if 16 ≤ i ∧ i < 24 then (errCode k).toNat.testBit (i - 16)
      else (decide (i = errBit k) || e.getLsbD i) := by
  have hflag : (BitVec.twoPow 32 (errBit k)).getLsbD i = decide (i = errBit k) := by
    rw [BitVec.getLsbD_twoPow, decide_eq_true (errBit_lt k), Bool.true_and, decide_eq_decide, eq_comm]
  have hkept : (~~~lastCodeMask).getLsbD i = !decide (16 ≤ i ∧ i < 24) := by
    rw [BitVec.getLsbD_not, decide_eq_true hi, Bool.true_and, lastCodeMask_bits i hi]
  rw [errAfter, BitVec.getLsbD_or, BitVec.getLsbD_and, BitVec.getLsbD_or, hflag, hkept, errCode_shifted_bit k hi]
  by_cases hcode : 16 ≤ i ∧ i < 24
  · simp [hcode]
  · simp [hcode, Bool.or_comm]

/-- The table of 60_exceptions.md R190: each error, its flag and its code. -/
def errorTable : List (ErrKind × Nat × Nat) :=
  [(.illcmd, 0, 1), (.cfg, 1, 2), (.pbfull, 2, 3), (.qfull, 3, 4), (.qempty, 4, 5), (.regacc, 5, 6)]

theorem errorTable_rows : ∀ r ∈ errorTable, errBit r.1 = r.2.1 ∧ (errCode r.1).toNat = r.2.2 := by decide

/-- Settles O12: the record is errAfter, whose bits are those of the error's row. -/
theorem errorRecordBits : Obligations.ErrorRecordBits := by
  intro k bit code hrow w s
  obtain ⟨hbit, hcode⟩ := errorTable_rows _ hrow
  refine ⟨errAfter k s.err, fun i hi => ?_, rfl, rfl⟩
  rw [errAfter_bit k s.err hi, hbit, hcode]

end Sys2Proof.Machine
end

section
/-! PROOFS. Accesses that are refused (60_exceptions.md R197; 20_memory.md R45; 10_state.md R20). -/

namespace Sys2Proof.Machine

/-- No register stands above 28. -/
theorem regRead_of_gt {n : Nat} (hn : 28 < n) (s : State) : regRead n s = refusedRead .regacc s := by
  obtain ⟨m, rfl⟩ := Nat.exists_eq_add_of_le' hn
  rfl

/-- Every register from 13 on is read-only, and none stands above 28. -/
theorem regWrite_of_ge {n : Nat} (hn : 13 ≤ n) (v : Word) (s : State) :
    regWrite n v s = .next (raiseAccess .regacc s) := by
  obtain ⟨m, rfl⟩ := Nat.exists_eq_add_of_le' hn
  rfl

/-- Settles O58: CMD cannot be read, STATUS, ERRCMD and the registers from 13 on cannot be written, a number above 28
names no register, and the last entry of COEF is 2048. -/
theorem wrongAccessIsRefused : Obligations.WrongAccessIsRefused := by
  refine fun n v s => ⟨fun hread => ?read, fun hwrite => ?write, fun hcaddr =>
    ⟨coefRead_of_le hcaddr, congrArg Host.Outcome.next (coefWrite_of_le v hcaddr)⟩⟩
  case read =>
    rcases hread with rfl | hgt
    · rfl
    · exact regRead_of_gt hgt s
  case write =>
    rcases hwrite with rfl | rfl | hge
    · rfl
    · rfl
    · exact regWrite_of_ge hge v s

end Sys2Proof.Machine
end

section
/-! PROOFS. The transmit and the receive units share nothing (70_reset_and_hazards.md R216 (e)). -/

namespace Sys2Proof.Machine

open Sys2Proof.Safety

/-- A transmit command writes transmit units, the payload buffer, OBQ, OSQ and at most the event of a truncated burst. -/
theorem plan_sameReceive {i : Instr} (hi : isTransmit i = true) (s : State) : SameReceive s (plan i s).result := by
  cases i with
  | crcClr | crcBit | crcByte | crcEmit | pbClr | pbBit | pbByte | stfClr | stfBit | nzeClr | nzeBit | modClr | modSym
  | modFlush | modTone | modSil | txFrame | txLevels | txBurst => simp [SameReceive, plan, withEvent_eq]
  | _ => nomatch hi

/-- A receive command writes receive units, OBQ, OYQ, OFQ and at most the event of a dropped frame. -/
theorem plan_sameTransmit {i : Instr} (hi : isReceive i = true) (s : State) : SameTransmit s (plan i s).result := by
  cases i with
  | dsfClr | dsfBit | nzdClr | nzdLvl | pckClr | pckBit | xtrClr | xtrByte | rxLvl | rxEnd =>
    simp [SameTransmit, plan, withEvent_eq]
  | _ => nomatch hi

/-- Settles O18: each side's effects stay on that side, and an error touches no unit. -/
theorem transmitAndReceiveShareNothing : Obligations.TransmitAndReceiveShareNothing := by
  intro i s t h
  rcases exec_cases h with ⟨-, rfl⟩ | ⟨k, rfl⟩
  · exact ⟨fun hi => plan_sameReceive hi s, fun hi => plan_sameTransmit hi s⟩
  · simp [SameReceive, SameTransmit]

end Sys2Proof.Machine
end
